-- ==== Sys2Proof/Word.lean ====
section
/-! DEFINITION. The bit-vector types the spec uses (00_scope.md R8, R11; 30_encoding.md R60). -/

namespace Sys2Proof

/-- One byte of the stream that is checksummed. -/
abbrev Byte := BitVec 8

/-- A command opcode, the field `op` (R60). -/
abbrev Opcode := BitVec 8

/-- The accumulator, a response, a table entry: 32 bits (R8). -/
abbrev Word := BitVec 32

/-- The operand field `data` of a command (R60). -/
abbrev Data := BitVec 64

/-- A whole command word, `op` in bits 71:64 and `data` in bits 63:0 (R60). -/
abbrev CmdWord := BitVec 72

end Sys2Proof
end

