-- ==== Sys2Proof/Syntax.lean ====
section
/-! DEFINITION. The commands of the block, one constructor per row of spec/opcode_table.json. -/

namespace Sys2Proof

/-- A command with its operand field. Every command word carries 64 data bits (30_encoding.md R60); which of them a
command uses is R64, and the others are kept here and ignored by the meaning (R65). -/
inductive Instr where
  /-- NOP, `op` 0x00 (41_control_commands.md R101). -/
  | nop (data : Data)
  /-- SEED, `op` 0x01 (R102). -/
  | seed (data : Data)
  /-- READ, `op` 0x02 (R103). -/
  | read (data : Data)
  /-- STATUS, `op` 0x03 (R105). -/
  | status (data : Data)
  /-- UPDATE1, `op` 0x10 (42_update_commands.md R121). -/
  | update1 (data : Data)
  /-- UPDATE2, `op` 0x11 (R122). -/
  | update2 (data : Data)
  /-- UPDATE3, `op` 0x12 (R123). -/
  | update3 (data : Data)
  /-- UPDATE4, `op` 0x13 (R124). -/
  | update4 (data : Data)
  /-- UPDATE5, `op` 0x14 (R125). -/
  | update5 (data : Data)
  /-- UPDATE6, `op` 0x15 (R126). -/
  | update6 (data : Data)
  /-- UPDATE7, `op` 0x16 (R127). -/
  | update7 (data : Data)
  /-- UPDATE8, `op` 0x17 (R128). -/
  | update8 (data : Data)
deriving DecidableEq, Repr

end Sys2Proof
end

