-- ==== Sys2Proof/WellFormed.lean ====
section
/-! DEFINITION. Which instruction terms are commands of the block (all of them), and which are in the form the
assembler writes (ignored data bits zero). -/

namespace Sys2Proof

/-- How many low bits of `data` a command uses (30_encoding.md R64, R65). -/
def Instr.usedBits : Instr → Nat
  | .nop _ => 0
  | .seed _ => 32
  | .read _ => 0
  | .status _ => 0
  | .update1 _ => 8
  | .update2 _ => 16
  | .update3 _ => 24
  | .update4 _ => 32
  | .update5 _ => 40
  | .update6 _ => 48
  | .update7 _ => 56
  | .update8 _ => 64

/-- The operand field of a command, whole. -/
def Instr.data : Instr → Data
  | .nop d => d
  | .seed d => d
  | .read d => d
  | .status d => d
  | .update1 d => d
  | .update2 d => d
  | .update3 d => d
  | .update4 d => d
  | .update5 d => d
  | .update6 d => d
  | .update7 d => d
  | .update8 d => d

/-- Well-formedness. There is nothing to check: operand widths stand in the type, no operand value is invalid
(40_crc_core.md R82) and a nonzero ignored bit is no error (30_encoding.md R65). -/
def Instr.WellFormed (_ : Instr) : Prop := True

/-- The form the assembler writes (30_encoding.md R65, R68): every ignored data bit is 0. A command that is not in this
form is a command all the same. -/
def Instr.canonical (i : Instr) : Bool :=
  decide (i.data.toNat < 2 ^ i.usedBits)

end Sys2Proof
end

