-- ==== Sys2Proof/Decode.lean ====
section
/-! DEFINITION. The decoder, a total function of the command word (30_encoding.md R63), and after it the encoder. -/

namespace Sys2Proof

/-- What a command word decodes to: a command, or a reserved opcode by name (R63). -/
inductive Decoded where
  | command (i : Instr)
  | reserved (op : Opcode)
deriving DecidableEq, Repr

/-- The field `op` of a command word, bits 71:64 (R60). -/
def opField (w : CmdWord) : Opcode := w.extractLsb' 64 8

/-- The field `data` of a command word, bits 63:0 (R60). -/
def dataField (w : CmdWord) : Data := w.extractLsb' 0 64

/-- The word the two port fields make, `op` in the high bits (R49, R60). -/
def cmdWord (op : Opcode) (data : Data) : CmdWord := op ++ data

/-- The sub-field `grp` of `op`, bits 7:3 (R61). -/
def grpField (op : Opcode) : BitVec 5 := op.extractLsb' 3 5

/-- The sub-field `len_m1` of `op`, bits 2:0 (R61). -/
def lenM1Field (op : Opcode) : BitVec 3 := op.extractLsb' 0 3

/-- The UPDATE command that `len_m1` selects: L = `len_m1` + 1 (R61). -/
def updateOfLenM1 (lenM1 : BitVec 3) (data : Data) : Instr :=
  match lenM1.toNat with
  | 0 => .update1 data
  | 1 => .update2 data
  | 2 => .update3 data
  | 3 => .update4 data
  | 4 => .update5 data
  | 5 => .update6 data
  | 6 => .update7 data
  | _ => .update8 data

/-- Decoding by `op` and `data` (R63). -/
def decodeFields (op : Opcode) (data : Data) : Decoded :=
  if op = 0x00#8 then .command (.nop data)
  else if op = 0x01#8 then .command (.seed data)
  else if op = 0x02#8 then .command (.read data)
  else if op = 0x03#8 then .command (.status data)
  else if grpField op = 0b00010#5 then .command (updateOfLenM1 (lenM1Field op) data)
  else .reserved op

/-- The decoder: total, and it looks only at `op` to select the command (R60, R63). -/
def decode (w : CmdWord) : Decoded := decodeFields (opField w) (dataField w)

/-- The instruction a decoding holds, if it is one. -/
def Decoded.instr? : Decoded → Option Instr
  | .command i => some i
  | .reserved _ => none

/-- The reserved opcodes, 0x04 to 0x0F and 0x18 to 0xFF (R66). -/
def isReserved (op : Opcode) : Bool :=
  (decide (0x04 ≤ op.toNat) && decide (op.toNat ≤ 0x0F)) || decide (0x18 ≤ op.toNat)

/-- The decoder on an instruction whose bits are numbered as spec/opcode_table.json numbers them. A command is one
72-bit word, so bit 0 of the number is bit 0 of the word; bits at and above `nbits` are 0. A word of more than 72 bits
is no command (R60). -/
def decodeTableWord (nbits w : Nat) : Option Instr :=
  if nbits ≤ 72 then (decode (BitVec.ofNat 72 (w % 2 ^ nbits))).instr? else none

/-- The opcode of a command (30_encoding.md R62). -/
def opcodeOf : Instr → Opcode
  | .nop _ => 0x00
  | .seed _ => 0x01
  | .read _ => 0x02
  | .status _ => 0x03
  | .update1 _ => 0x10
  | .update2 _ => 0x11
  | .update3 _ => 0x12
  | .update4 _ => 0x13
  | .update5 _ => 0x14
  | .update6 _ => 0x15
  | .update7 _ => 0x16
  | .update8 _ => 0x17

/-- The encoder: the word of a command (R60, R62). -/
def encode (i : Instr) : CmdWord := cmdWord (opcodeOf i) i.data

end Sys2Proof
end

