-- ==== Sys2Proof/Machine/Crc.lean ====
section
/-! DEFINITION. The CRC-32C function of 40_crc_core.md, the correctness oracle of every datapath. -/

namespace Sys2Proof.Machine

/-- The reflected polynomial (40_crc_core.md R80, R91). -/
def polynomial : Word := 0x82F63B78

/-- The constant of the inversion before and after (R80). -/
def inversion : Word := 0xFFFFFFFF

/-- One of the eight shifts of the byte step (R81). -/
def shiftOnce (c : Word) : Word :=
  if c.getLsbD 0 then (c >>> 1) ^^^ polynomial else c >>> 1

/-- The loop "repeat n times" around the shift (R81). -/
def shiftTimes : Nat → Word → Word
  | 0, c => c
  | n + 1, c => shiftTimes n (shiftOnce c)

/-- The byte step in the internal, inverted domain (R81). -/
def step8 (c : Word) (b : Byte) : Word := shiftTimes 8 (c ^^^ b.setWidth 32)

/-- The loop over the byte sequence, in the internal domain (R80). -/
def crcLoop (c : Word) : List Byte → Word
  | [] => c
  | b :: s => crcLoop (step8 c b) s

/-- The checksum of `s` continued from `seed` (R80). -/
def crc32c (seed : Word) (s : List Byte) : Word :=
  crcLoop (seed ^^^ inversion) s ^^^ inversion

/-- The four bytes of a word, low byte first (R90). -/
def le32 (c : Word) : List Byte :=
  [c.extractLsb' 0 8, c.extractLsb' 8 8, c.extractLsb' 16 8, c.extractLsb' 24 8]

end Sys2Proof.Machine
end

