-- ==== Sys2Proof/Config.lean ====
section
/-! DEFINITION. What an implementation fixes (DATAPATH, the shape of BUSY) and the values the spec leaves open. -/

namespace Sys2Proof

/-- The datapath a block is built with (00_scope.md R7). -/
inductive Datapath where
  /-- The polynomial datapath: one data bit a clock (43_datapath_variants.md R143). -/
  | bitSerial
  /-- The table datapath: one byte a clock (R146). -/
  | byte
  /-- Four bytes a clock (R148). -/
  | slice4
  /-- Eight bytes a clock (R149). -/
  | slice8
deriving DecidableEq, Repr, Inhabited

/-- BUSY, a multi-cycle UPDATE in progress: the partly updated internal value and the data not yet consumed, the next
to be consumed first (10_state.md R25). Its width is implementation-defined (R32): the polynomial datapath counts in
bits, the others in bytes. -/
inductive Busy where
  | bits (c : Word) (todo : List Bool)
  | bytes (c : Word) (todo : List Byte)
deriving DecidableEq, Repr

/-- The OPEN parameter DATAPATH of this block (00_scope.md R7, 92_eei_decisions.md D16): any of the four. -/
opaque Config.datapath : Datapath

/-- `rsp_data` while `rsp_valid` = 0: any value (20_memory.md R51, 92_eei_decisions.md D24). -/
opaque Config.idleRspData : Nat → Word

/-- ACC after a loss of power and before the next reset: unspecified (70_reset_and_hazards.md R204). -/
opaque Config.powerOnAcc : Nat → Word

/-- ERR after a loss of power and before the next reset: unspecified (R204). -/
opaque Config.powerOnErr : Nat → Bool

/-- ERROP after a loss of power and before the next reset: unspecified (R204). -/
opaque Config.powerOnErrop : Nat → Opcode

/-- RSP after a loss of power and before the next reset: unspecified (R204). -/
opaque Config.powerOnRsp : Nat → Option Word

/-- BUSY after a loss of power and before the next reset: unspecified (R204). -/
opaque Config.powerOnBusy : Nat → Option Busy

end Sys2Proof
end

