-- ==== Sys2Proof/Machine/State.lean ====
section
/-! DEFINITION. The state of the block and of what drives it, its reset value, and the reasons a step can stop. -/

namespace Sys2Proof.Machine

/-- What the host does next (00_scope.md R9, R10). -/
inductive HostEvent where
  /-- Present a command word and hold it until it transfers (R10 (a), 20_memory.md R49). -/
  | command (w : CmdWord)
  /-- Take the pending response (R10 (b), 20_memory.md R51). -/
  | take
  /-- Assert `rst` for an edge (R10 (c), 70_reset_and_hazards.md R200). -/
  | reset
  /-- The supply fails and comes back (60_exceptions.md R194). -/
  | powerLoss
deriving DecidableEq, Repr

/-- The whole state: the block's own (10_state.md R32) and the host's side of the ports. -/
structure State where
  /-- ACC, the checksum so far in its post-inverted form (10_state.md R20). -/
  acc : Word
  /-- ERR, the sticky error flag (R22). -/
  err : Bool
  /-- ERROP, the first reserved opcode since reset (R23). -/
  errop : Opcode
  /-- RSP, the one-entry response buffer (R24). -/
  rsp : Option Word
  /-- BUSY, a multi-cycle UPDATE in progress (R25); always clear at the transaction level. -/
  busy : Option Busy
  /-- DATAPATH, fixed when the block is built (R27). -/
  datapath : Datapath
  /-- Whether a reset edge has come since power-on (70_reset_and_hazards.md R204). -/
  initialised : Bool
  /-- The command presented at the last edge and not transferred yet: the host's side of the port, which neither reset
  nor a loss of power ends (20_memory.md R49). -/
  presented : Option CmdWord
  /-- What the host does next, in order (00_scope.md R9). -/
  pending : List HostEvent
  /-- The responses the host has taken, oldest first (20_memory.md R54). -/
  taken : List Word
  /-- The MODEL's own counter, to which free values are applied. -/
  draws : Nat
deriving DecidableEq, Repr

/-- Why no step exists. Neither is a fault of the block: its one fault, ReservedCommand, is a next state. -/
inductive Fault where
  /-- Raised by a step with no further host event, BUSY clear and RSP empty: the run has ended (20_memory.md R54).
  Safe. -/
  | quiescent
  /-- Raised by a step with RSP full when the host presents a command or does nothing more instead of taking the
  response: the block waits for ever (60_exceptions.md R188, 70_reset_and_hazards.md R212). Safe. -/
  | stuck
deriving DecidableEq, Repr

/-- Why the model says nothing. -/
inductive Refusal where
  /-- Raised by `exec` for an instruction that has no meaning yet; no arm does so in this model. Safe. -/
  | notModelled (mnemonic : String)
  /-- Raised by a step or a clock edge of a block that has not been reset since power-on (70_reset_and_hazards.md
  R204). Safe. -/
  | neverReset
  /-- Raised by a clock edge, with `rst` 0 or 1, at which the host has changed or withdrawn a command it had presented
  and that has not transferred (20_memory.md R49, 60_exceptions.md R187). Safe. -/
  | hostViolation
deriving DecidableEq, Repr

/-- The state right after reset of a block built with datapath `dp` (70_reset_and_hazards.md R201). -/
def State.resetOf (dp : Datapath) : State where
  acc := 0x00000000
  err := false
  errop := 0x00
  rsp := none
  busy := none
  datapath := dp
  initialised := true
  presented := none
  pending := []
  taken := []
  draws := 0

/-- The machine right after reset: DATAPATH is the block's open parameter (00_scope.md R7). -/
def State.reset : State := State.resetOf Config.datapath

end Sys2Proof.Machine
end

