-- ==== Sys2Proof/Machine/Flags.lean ====
section
/-! DEFINITION. ERR, ERROP and the STATUS word (10_state.md R22, R23; 41_control_commands.md R105 to R107). The block
has no other flag (10_state.md R30). -/

namespace Sys2Proof.Machine

/-- The DATAPATH code of STATUS bits 9:8 (41_control_commands.md R107). -/
def dpCode : Datapath → BitVec 2
  | .bitSerial => 0
  | .byte => 1
  | .slice4 => 2
  | .slice8 => 3

/-- ERROP after a reserved opcode: the first since reset is kept (10_state.md R23). -/
def captureOp (err : Bool) (errop op : Opcode) : Opcode := if err then errop else op

/-- The STATUS word (41_control_commands.md R105, R106). -/
def statusWord (s : State) : Word :=
  (s.errop ++ 0#6 ++ dpCode s.datapath ++ 0#7 ++ BitVec.ofBool s.err).setWidth 32

end Sys2Proof.Machine
end

