-- ==== Sys2Proof/Machine/Operands.lean ====
section
/-! DEFINITION. How each command takes its operand from `data` (30_encoding.md R64, 20_memory.md R41). -/

namespace Sys2Proof.Machine

/-- SEED's operand, `data[31:0]` unchanged (R64). -/
def seedOperand (data : Data) : Word := data.extractLsb' 0 32

/-- Byte `k` of `data`, bits 8k+7:8k. -/
def byteOf (data : Data) (k : Nat) : Byte := data.extractLsb' (8 * k) 8

/-- `bytes_of(data, L)`: the L low bytes, `data[7:0]` first (00_scope.md R13, 20_memory.md R41). -/
def bytesOf (data : Data) (len : Nat) : List Byte := (List.range len).map (byteOf data)

/-- The operand of the UPDATE family: L and the data field; none for the control commands (42_update_commands.md
R120). -/
def updateOperand : Instr → Option (Nat × Data)
  | .nop _ => none
  | .seed _ => none
  | .read _ => none
  | .status _ => none
  | .update1 d => some (1, d)
  | .update2 d => some (2, d)
  | .update3 d => some (3, d)
  | .update4 d => some (4, d)
  | .update5 d => some (5, d)
  | .update6 d => some (6, d)
  | .update7 d => some (7, d)
  | .update8 d => some (8, d)

/-- The bytes a command feeds, in stream order; none for the control commands (R120). -/
def fedBytes (i : Instr) : List Byte :=
  match updateOperand i with
  | some (len, data) => bytesOf data len
  | none => []

/-- Bytes packed into a data field, the first in bits 7:0: "the sum of Bk << 8k" (30_encoding.md R68). -/
def packBytes : List Byte → Data
  | [] => 0
  | b :: bs => (packBytes bs <<< 8) ||| b.setWidth 64

end Sys2Proof.Machine
end

