-- ==== Sys2Proof/Machine/Ops.lean ====
section
/-! DEFINITION. The named operations over the block's registers, the one fault entry, reset and loss of power. -/

namespace Sys2Proof.Machine

/-- `ACC <- v` (00_scope.md R13). -/
def State.setAcc (v : Word) (s : State) : State := { s with acc := v }

/-- `respond(v)`, that is `RSP <- v` (00_scope.md R13). -/
def State.respond (v : Word) (s : State) : State := { s with rsp := some v }

/-- UPDATEL: `ACC <- crc32c(ACC, bytes_of(data, L))` (42_update_commands.md R120). -/
def State.feed (len : Nat) (data : Data) (s : State) : State :=
  s.setAcc (crc32c s.acc (bytesOf data len))

/-- `raise ReservedCommand(op)`, the block's one fault entry: ERR is set, ERROP captures the first opcode, nothing else
changes (60_exceptions.md R181). There is no return from it (R184). -/
def State.raiseReservedCommand (op : Opcode) (s : State) : State :=
  { s with err := true, errop := captureOp s.err s.errop op }

/-- The host takes the response: RSP becomes empty and the host has the word; with RSP empty nothing happens
(20_memory.md R51). -/
def State.takeResponse (s : State) : State :=
  match s.rsp with
  | some v => { s with rsp := none, taken := s.taken ++ [v] }
  | none => s

/-- A reset edge (70_reset_and_hazards.md R201, R202): DATAPATH and what the host holds are unchanged. -/
def State.resetBlock (s : State) : State :=
  { s with acc := 0x00000000, err := false, errop := 0x00, rsp := none, busy := none, initialised := true }

/-- Power is lost and comes back: every register of the block is unspecified until the next reset
(60_exceptions.md R194, 70_reset_and_hazards.md R204). DATAPATH is built in. -/
def State.losePower (s : State) : State :=
  { s with acc := Config.powerOnAcc s.draws, err := Config.powerOnErr s.draws,
           errop := Config.powerOnErrop s.draws, rsp := Config.powerOnRsp s.draws,
           busy := Config.powerOnBusy s.draws, initialised := false }

/-- One more draw: the free values of the next step are new ones. -/
def State.tick (s : State) : State := { s with draws := s.draws + 1 }

/-- The host's next event is used up, `rest` are those after it. -/
def State.consume (rest : List HostEvent) (s : State) : State := { s.tick with pending := rest }

/-- What stands on the command port without having transferred (20_memory.md R49). -/
def State.present (w : Option CmdWord) (s : State) : State := { s with presented := w }

/-- The internal value an implementation may hold instead of ACC (10_state.md R26). -/
def State.internal (s : State) : Word := ~~~s.acc

end Sys2Proof.Machine
end

