-- ==== Sys2Proof/Machine/Datapath.lean ====
section
/-! DEFINITION. The datapath variants of 43_datapath_variants.md: what each does in one clock, in the internal domain
(R142), and an UPDATE run on one from its first clock to its last. The tables are recomputed from R145 and R147, which
win over the printed ones (R141, R152). -/

namespace Sys2Proof.Machine

/-- One clock of the polynomial datapath on data bit `d` (R143). -/
def lfsrClock (c : Word) (d : Bool) : Word :=
  (c >>> 1) ^^^ (if xor (c.getLsbD 0) d then polynomial else 0)

/-- The bits of a byte, bit 0 first (R143). -/
def bitsOf (b : Byte) : List Bool := (List.range 8).map b.getLsbD

/-- The bits of a byte sequence in the order the polynomial datapath takes them (R143). -/
def bitStream (s : List Byte) : List Bool := s.flatMap bitsOf

/-- The polynomial datapath over a stream of bits. -/
def lfsrLoop (c : Word) : List Bool → Word
  | [] => c
  | d :: ds => lfsrLoop (lfsrClock c d) ds

/-- The byte table T0 (R145). -/
def table0 (i : Byte) : Word := step8 (i.setWidth 32) 0x00

/-- From an entry of one table to the entry of the next: one zero byte more (R147). -/
def tableNext (t : Word) : Word := (t >>> 8) ^^^ table0 (t.setWidth 8)

/-- The tables T0 to T7 (R145, R147). -/
def table : Nat → Byte → Word
  | 0, i => table0 i
  | k + 1, i => tableNext (table k i)

/-- The table step on one byte (R146). -/
def tableStep (c : Word) (b : Byte) : Word :=
  (c >>> 8) ^^^ table0 ((c ^^^ b.setWidth 32).setWidth 8)

/-- Four bytes as a word, the first in bits 7:0 (R148). -/
def wordOf (b0 b1 b2 b3 : Byte) : Word := b3 ++ b2 ++ b1 ++ b0

/-- The step on four bytes `w` (R148). -/
def slice4Step (c w : Word) : Word :=
  let x := c ^^^ w
  table 3 (x.extractLsb' 0 8) ^^^ table 2 (x.extractLsb' 8 8) ^^^ table 1 (x.extractLsb' 16 8) ^^^
    table 0 (x.extractLsb' 24 8)

/-- The step on eight bytes, `wlo` the first four and `whi` the last four (R149). -/
def slice8Step (c wlo whi : Word) : Word :=
  let lo := c ^^^ wlo
  let hi := whi
  table 7 (lo.extractLsb' 0 8) ^^^ table 6 (lo.extractLsb' 8 8) ^^^ table 5 (lo.extractLsb' 16 8) ^^^
    table 4 (lo.extractLsb' 24 8) ^^^ table 3 (hi.extractLsb' 0 8) ^^^ table 2 (hi.extractLsb' 8 8) ^^^
    table 1 (hi.extractLsb' 16 8) ^^^ table 0 (hi.extractLsb' 24 8)

/-- The narrower slice of a partial group: n bytes through T(n-1) to T0 (R150). -/
def narrowSlice (c : Word) : List Byte → Word
  | [] => c
  | b :: s => table s.length ((c ^^^ b.setWidth 32).setWidth 8) ^^^ narrowSlice (c >>> 8) s

/-- One byte through the table; a datapath with nothing to do keeps its value. -/
def byteClock (c : Word) : List Byte → Busy
  | [] => .bytes c []
  | b :: s => .bytes (tableStep c b) s

/-- One clock of a four-byte datapath: a slice while four bytes are left, else a byte (R148, R150). -/
def slice4Clock (c : Word) : List Byte → Busy
  | b0 :: b1 :: b2 :: b3 :: s => .bytes (slice4Step c (wordOf b0 b1 b2 b3)) s
  | s => byteClock c s

/-- One clock of an eight-byte datapath: eight bytes, or all that are left (R149, R150). -/
def slice8Clock (c : Word) : List Byte → Busy
  | b0 :: b1 :: b2 :: b3 :: b4 :: b5 :: b6 :: b7 :: s =>
    .bytes (slice8Step c (wordOf b0 b1 b2 b3) (wordOf b4 b5 b6 b7)) s
  | s => .bytes (narrowSlice c s) []

/-- One clock of an UPDATE in progress (R143, R146, R148 to R150). -/
def datapathClock (dp : Datapath) : Busy → Busy
  | .bits c [] => .bits c []
  | .bits c (d :: ds) => .bits (lfsrClock c d) ds
  | .bytes c s =>
    match dp with
    | .bitSerial => byteClock c s
    | .byte => byteClock c s
    | .slice4 => slice4Clock c s
    | .slice8 => slice8Clock c s

/-- The internal value, partly updated (10_state.md R25). -/
def busyValue : Busy → Word
  | .bits c _ => c
  | .bytes c _ => c

/-- Whether all data has been consumed. -/
def busyDone : Busy → Bool
  | .bits _ todo => todo.isEmpty
  | .bytes _ todo => todo.isEmpty

/-- The internal value the UPDATE ends with: what is left, consumed as R81 and R143 say. -/
def busyFinal : Busy → Word
  | .bits c todo => lfsrLoop c todo
  | .bytes c todo => crcLoop c todo

/-- The start of an UPDATE: `c = ACC ^ 0xFFFFFFFF` and all its data to consume (R142). -/
def busyStart (dp : Datapath) (acc : Word) (s : List Byte) : Busy :=
  match dp with
  | .bitSerial => .bits (acc ^^^ inversion) (bitStream s)
  | .byte => .bytes (acc ^^^ inversion) s
  | .slice4 => .bytes (acc ^^^ inversion) s
  | .slice8 => .bytes (acc ^^^ inversion) s

/-- `n` clocks of the datapath. -/
def datapathRun (dp : Datapath) : Nat → Busy → Busy
  | 0, b => b
  | n + 1, b => datapathRun dp n (datapathClock dp b)

/-- The clocks an UPDATE of `len` bytes takes, nominally (70_reset_and_hazards.md R215). -/
def nominalClocks (dp : Datapath) (len : Nat) : Nat :=
  match dp with
  | .bitSerial => 8 * len
  | .byte => len
  | .slice4 => len / 4 + len % 4
  | .slice8 => 1

/-- ACC after an UPDATE that feeds `s`, computed by the datapath `dp` (R142). -/
def datapathUpdate (dp : Datapath) (acc : Word) (s : List Byte) : Word :=
  busyValue (datapathRun dp (nominalClocks dp s.length) (busyStart dp acc s)) ^^^ inversion

/-- What an edge leaves of an UPDATE that has come to `b`: BUSY while data is left, and ACC written at the end
(10_state.md R25, 43_datapath_variants.md R142). -/
def State.holdBusy (b : Busy) (s : State) : State :=
  if busyDone b then { s with acc := busyValue b ^^^ inversion, busy := none } else { s with busy := some b }

/-- One edge of an UPDATE in progress. An implementation may take more edges than nominal
(70_reset_and_hazards.md R214): at an edge with `stall` the datapath waits. -/
def State.advance (stall : Bool) (b : Busy) (s : State) : State :=
  if stall then { s with busy := some b } else s.holdBusy (datapathClock s.datapath b)

/-- The state as the transaction level sees it: an UPDATE in progress is one that has been performed
(00_scope.md R10, 10_state.md R25). -/
def State.settle (s : State) : State :=
  match s.busy with
  | some b => { s with acc := busyFinal b ^^^ inversion, busy := none }
  | none => s

end Sys2Proof.Machine
end

