-- ==== Sys2Proof/Machine/Control.lean ====
section
/-! DEFINITION. The meanings of NOP, SEED, READ and STATUS (41_control_commands.md). -/

namespace Sys2Proof.Machine

/-- NOP does nothing; `data` is ignored (R101). -/
def execNop (_data : Data) (s : State) : Host.Outcome State Fault Refusal := .next s

/-- SEED: `ACC <- data[31:0]` (R102). -/
def execSeed (data : Data) (s : State) : Host.Outcome State Fault Refusal :=
  .next (s.setAcc (seedOperand data))

/-- READ: `respond(ACC)`; `data` is ignored (R103). -/
def execRead (_data : Data) (s : State) : Host.Outcome State Fault Refusal :=
  .next (s.respond s.acc)

/-- STATUS: respond the status word; `data` is ignored (R105). -/
def execStatus (_data : Data) (s : State) : Host.Outcome State Fault Refusal :=
  .next (s.respond (statusWord s))

end Sys2Proof.Machine
end

