-- ==== Sys2Proof/Machine/Update.lean ====
section
/-! DEFINITION. The meanings of UPDATE1 to UPDATE8 (42_update_commands.md R120 to R128). -/

namespace Sys2Proof.Machine

/-- UPDATE1 feeds one byte, `data[7:0]` (R121). -/
def execUpdate1 (data : Data) (s : State) : Host.Outcome State Fault Refusal := .next (s.feed 1 data)

/-- UPDATE2 feeds two bytes, `data[15:0]`, low byte first (R122). -/
def execUpdate2 (data : Data) (s : State) : Host.Outcome State Fault Refusal := .next (s.feed 2 data)

/-- UPDATE3 feeds three bytes, `data[23:0]`, low byte first (R123). -/
def execUpdate3 (data : Data) (s : State) : Host.Outcome State Fault Refusal := .next (s.feed 3 data)

/-- UPDATE4 feeds four bytes, `data[31:0]`, low byte first (R124). -/
def execUpdate4 (data : Data) (s : State) : Host.Outcome State Fault Refusal := .next (s.feed 4 data)

/-- UPDATE5 feeds five bytes, `data[39:0]`, low byte first (R125). -/
def execUpdate5 (data : Data) (s : State) : Host.Outcome State Fault Refusal := .next (s.feed 5 data)

/-- UPDATE6 feeds six bytes, `data[47:0]`, low byte first (R126). -/
def execUpdate6 (data : Data) (s : State) : Host.Outcome State Fault Refusal := .next (s.feed 6 data)

/-- UPDATE7 feeds seven bytes, `data[55:0]`, low byte first (R127). -/
def execUpdate7 (data : Data) (s : State) : Host.Outcome State Fault Refusal := .next (s.feed 7 data)

/-- UPDATE8 feeds eight bytes, all of `data`, low byte first (R128). -/
def execUpdate8 (data : Data) (s : State) : Host.Outcome State Fault Refusal := .next (s.feed 8 data)

end Sys2Proof.Machine
end

