-- ==== Sys2Proof/Machine/Dispatch.lean ====
section
/-! DEFINITION. One arm per command, each one call of its meaning. -/

namespace Sys2Proof.Machine

/-- Perform a command, completely and as one step (20_memory.md R43). -/
def exec (i : Instr) (s : State) : Host.Outcome State Fault Refusal :=
  match i with
  | .nop data => Sys2Proof.Machine.execNop data s
  | .seed data => Sys2Proof.Machine.execSeed data s
  | .read data => Sys2Proof.Machine.execRead data s
  | .status data => Sys2Proof.Machine.execStatus data s
  | .update1 data => Sys2Proof.Machine.execUpdate1 data s
  | .update2 data => Sys2Proof.Machine.execUpdate2 data s
  | .update3 data => Sys2Proof.Machine.execUpdate3 data s
  | .update4 data => Sys2Proof.Machine.execUpdate4 data s
  | .update5 data => Sys2Proof.Machine.execUpdate5 data s
  | .update6 data => Sys2Proof.Machine.execUpdate6 data s
  | .update7 data => Sys2Proof.Machine.execUpdate7 data s
  | .update8 data => Sys2Proof.Machine.execUpdate8 data s

end Sys2Proof.Machine
end

