-- ==== Sys2Proof/Machine/Transaction.lean ====
section
/-! DEFINITION. One step of the transaction level (00_scope.md R10): the host's next event against the block. -/

namespace Sys2Proof.Machine

/-- The block accepts a command word and performs it: a command has its meaning, a reserved opcode raises
ReservedCommand and the block goes on (20_memory.md R43, 60_exceptions.md R181, R183). -/
def acceptCommand (w : CmdWord) (s : State) : Host.Outcome State Fault Refusal :=
  match decode w with
  | .command i => exec i s
  | .reserved op => .next (s.raiseReservedCommand op)

/-- The event at the head of the host's list, `rest` being those after it. A block that was never reset does nothing
but be reset (70_reset_and_hazards.md R204). While BUSY the event waits and the datapath goes on, except that reset
abandons the UPDATE (R202). A command waits while RSP is full, and a host that presents it instead of taking the
response waits for ever (R212). -/
def serveEvent (e : HostEvent) (rest : List HostEvent) (s : State) : Host.Outcome State Fault Refusal :=
  match e with
  | .reset => .next (s.consume rest).resetBlock
  | .powerLoss => .next (s.consume rest).losePower
  | .take =>
    if s.initialised then
      match s.busy with
      | some b => .next (s.tick.advance false b)
      | none => .next (s.consume rest).takeResponse
    else .refused .neverReset
  | .command w =>
    if s.initialised then
      match s.busy with
      | some b => .next (s.tick.advance false b)
      | none => if s.rsp.isSome then .fault .stuck else acceptCommand w (s.consume rest)
    else .refused .neverReset

/-- No event is left: an UPDATE in progress goes on; else the run is at its end, or stuck with a response that nobody
takes (20_memory.md R54, 60_exceptions.md R188). -/
def serveNothing (s : State) : Host.Outcome State Fault Refusal :=
  if s.initialised then
    match s.busy with
    | some b => .next (s.tick.advance false b)
    | none => if s.rsp.isSome then .fault .stuck else .fault .quiescent
  else .refused .neverReset

/-- One step of the transaction level. -/
def transact (s : State) : Host.Outcome State Fault Refusal :=
  match s.pending with
  | [] => serveNothing s
  | e :: rest => serveEvent e rest s

/-- The command word with the given low bits, as the host presents it. -/
def tableWord (nbits w : Nat) : CmdWord := BitVec.ofNat 72 (w % 2 ^ nbits)

/-- The host presents the command `w` next, to a block that can accept it: reset since power-on, BUSY clear, RSP empty
(20_memory.md R49, R50). -/
def State.offer (w : CmdWord) (s : State) : State :=
  { s with pending := .command w :: s.pending, rsp := none, busy := none, initialised := true }

end Sys2Proof.Machine
end

