-- ==== Sys2Proof/Machine/Step.lean ====
section
/-! DEFINITION. The step of the machine, and the placing of one instruction where the next step finds it. -/

namespace Sys2Proof.Machine

/-- One step at the transaction level, which is the normative one (00_scope.md R10). -/
def step (s : State) : Host.Outcome State Fault Refusal := transact s

/-- `s` with the host presenting that instruction as its next event. The block fetches nothing (20_memory.md R53), so
this is the whole of how a command comes to run. -/
def State.withFetchWord (s : State) (nbits w : Nat) : State := s.offer (tableWord nbits w)

end Sys2Proof.Machine
end

