-- ==== Sys2Proof/Machine/Assembler.lean ====
section
/-! DEFINITION. The assembly lines and pseudo-instructions of the spec (30_encoding.md R68, R69), as abstract syntax. -/

namespace Sys2Proof.Machine

/-- One line of assembly (R68) or one pseudo-instruction (R69). Numbers are what the programmer wrote, so they may be
out of range. -/
inductive Asm where
  | nop
  | seed (imm : Nat)
  | read
  | status
  /-- `updL IMM` -/
  | upd (len imm : Nat)
  /-- `updL.b B0, ..., B(L-1)` -/
  | updBytes (len : Nat) (bytes : List Nat)
  /-- `.cmd OP, DATA` -/
  | cmd (op data : Nat)
  | clear
  /-- `feed B0, ..., B(n-1)` -/
  | feed (bytes : List Nat)
  /-- `feed "STRING"`, the string given by its characters -/
  | feedString (chars : List Char)
  /-- `crc SEED32, BYTES` -/
  | crc (start : Nat) (bytes : List Nat)
deriving DecidableEq, Repr

/-- Whether the assembler takes the line: lengths 1 to 8, immediates and bytes in range, ASCII strings (R68, R69). -/
def Asm.wellFormed : Asm → Bool
  | .nop => true
  | .seed imm => decide (imm < 2 ^ 32)
  | .read => true
  | .status => true
  | .upd len imm => decide (1 ≤ len) && decide (len ≤ 8) && decide (imm < 2 ^ (8 * len))
  | .updBytes len bytes =>
    decide (1 ≤ len) && decide (len ≤ 8) && decide (bytes.length = len) && bytes.all (fun b => decide (b < 256))
  | .cmd op data => decide (op < 256) && decide (data < 2 ^ 64)
  | .clear => true
  | .feed bytes => bytes.all (fun b => decide (b < 256))
  | .feedString chars => chars.all (fun c => decide (c.toNat < 128))
  | .crc start bytes => decide (start < 2 ^ 32) && bytes.all (fun b => decide (b < 256))

/-- The bytes of a list of numbers. -/
def toBytes (bytes : List Nat) : List Byte := bytes.map (BitVec.ofNat 8)

/-- The word of `updL`, `op` = 0x10 + L - 1 (R68). -/
def updWord (len : Nat) (data : Data) : CmdWord := cmdWord (BitVec.ofNat 8 (0x10 + len - 1)) data

/-- `feed`: one UPDATE8 per eight bytes, then one UPDATE with the rest, if any (R69). -/
def feedWords : List Byte → List CmdWord
  | b0 :: b1 :: b2 :: b3 :: b4 :: b5 :: b6 :: b7 :: s =>
    updWord 8 (packBytes [b0, b1, b2, b3, b4, b5, b6, b7]) :: feedWords s
  | [] => []
  | s => [updWord s.length (packBytes s)]

/-- The words a line stands for (R68, R69). -/
def Asm.words : Asm → List CmdWord
  | .nop => [cmdWord 0x00 0]
  | .seed imm => [cmdWord 0x01 (BitVec.ofNat 64 imm)]
  | .read => [cmdWord 0x02 0]
  | .status => [cmdWord 0x03 0]
  | .upd len imm => [updWord len (BitVec.ofNat 64 imm)]
  | .updBytes len bytes => [updWord len (packBytes (toBytes bytes))]
  | .cmd op data => [cmdWord (BitVec.ofNat 8 op) (BitVec.ofNat 64 data)]
  | .clear => [cmdWord 0x01 0]
  | .feed bytes => feedWords (toBytes bytes)
  | .feedString chars => feedWords (toBytes (chars.map Char.toNat))
  | .crc start bytes => cmdWord 0x01 (BitVec.ofNat 64 start) :: (feedWords (toBytes bytes) ++ [cmdWord 0x02 0])

/-- The assembler: the words of a line, or no words for an assembler error (R68). -/
def assemble (a : Asm) : Option (List CmdWord) := if a.wellFormed then some a.words else none

end Sys2Proof.Machine
end

