-- ==== Sys2Proof/Machine/Adapter.lean ====
section
/-! DEFINITION. The host-side streaming adapter, outside the block (45_host_adapter.md R170 to R175): what it computes,
and the host events by which it drives a block that it owns. -/

namespace Sys2Proof.Machine

/-- The adapter's one value (R170). -/
structure Adapter where
  sum : Word
deriving DecidableEq, Repr

/-- A new adapter: the initial accumulator value is 0 (R170). -/
def newAdapter : Adapter := { sum := 0 }

/-- `write(bytes)` (R171). -/
def Adapter.write (a : Adapter) (bytes : List Byte) : Adapter := { sum := crc32c a.sum bytes }

/-- `(sum << 32) | sum`, `sum` widened to 64 bits before the shift (R172). -/
def duplicate (r : Word) : BitVec 64 := (r.setWidth 64 <<< 32) ||| r.setWidth 64

/-- `finish()` (R172). -/
def Adapter.finish (a : Adapter) : BitVec 64 := duplicate a.sum

/-- Creating an adapter on a block, in the first of the two ways R170 allows: it issues `seed 0`. The other way, relying
on ACC = 0 after reset, is to issue nothing. That `newEvents` is the first way is the model's choice (log 14, DESIGN
CHOICE). -/
def newEvents : List HostEvent := [.command (cmdWord 0x01 0)]

/-- `write(bytes)` on a block is `feed bytes` (R171). -/
def writeEvents (bytes : List Byte) : List HostEvent := (feedWords bytes).map .command

/-- `finish()` on a block is `read`, and the host takes the response (R172). -/
def finishEvents : List HostEvent := [.command (cmdWord 0x02 0), .take]

/-- `crc32c_mem(seed, data)` on a block: `seed`, `feed`, `read`, and the host takes the response (R175). -/
def crcMemEvents (seed : Word) (bytes : List Byte) : List HostEvent :=
  .command (cmdWord 0x01 (seed.setWidth 64)) :: (writeEvents bytes ++ finishEvents)

end Sys2Proof.Machine
end

