-- ==== Sys2Proof/Machine/Cycle.lean ====
section
/-! DEFINITION. The clock level: the ports, the handshakes and BUSY (20_memory.md R48 to R52). It refines the
transaction level (00_scope.md R10, 70_reset_and_hazards.md R210). -/

namespace Sys2Proof.Machine

/-- The block's inputs at one rising edge of `clk` (20_memory.md R48). -/
structure PortIn where
  rst : Bool
  cmdValid : Bool
  cmdOp : Opcode
  cmdData : Data
  rspReady : Bool
deriving DecidableEq, Repr

/-- The block's outputs (R48). -/
structure PortOut where
  cmdReady : Bool
  rspValid : Bool
  rspData : Word
  err : Bool
deriving DecidableEq, Repr

/-- The command word on the port, `{cmd_op, cmd_data}` (R49). -/
def PortIn.word (p : PortIn) : CmdWord := cmdWord p.cmdOp p.cmdData

/-- The command the host presents, if it presents one: while `cmd_valid` = 0 the fields are ignored (R49). -/
def PortIn.offered (p : PortIn) : Option CmdWord := if p.cmdValid then some p.word else none

/-- `cmd_ready = (rst == 0) and (not BUSY) and (RSP is empty)` (R50). -/
def cmdReady (rst : Bool) (s : State) : Bool := !rst && s.busy.isNone && s.rsp.isNone

/-- `rsp_valid`: RSP is full (R51), and 0 during reset (70_reset_and_hazards.md R203). -/
def rspValid (rst : Bool) (s : State) : Bool := !rst && s.rsp.isSome

/-- `rsp_data`: the response while `rsp_valid` = 1, else any value (R51, 92_eei_decisions.md D24). -/
def rspData (rst : Bool) (s : State) : Word :=
  if rspValid rst s then s.rsp.getD (Config.idleRspData s.draws) else Config.idleRspData s.draws

/-- The outputs while `rst` has the given level; before the first reset they are unspecified and the model gives none
(70_reset_and_hazards.md R204). `err` equals ERR in every cycle (R52). -/
def ports (rst : Bool) (s : State) : Option PortOut :=
  if s.initialised then
    some { cmdReady := cmdReady rst s, rspValid := rspValid rst s, rspData := rspData rst s, err := s.err }
  else none

/-- A command transfers at this edge (R49). -/
def commandTransfers (p : PortIn) (s : State) : Bool := p.cmdValid && cmdReady p.rst s

/-- The host takes the response at this edge (R51). -/
def responseTransfers (p : PortIn) (s : State) : Bool := p.rspReady && rspValid p.rst s

/-- The host breaks its obligation: a command it presented before has not transferred, and it has changed or withdrawn
it. The obligation runs until the transfer edge, and reset does not end it (R49, 60_exceptions.md R187; a host that
presented a command during reset keeps `cmd_valid` raised, 70_reset_and_hazards.md R203). -/
def hostViolates (p : PortIn) (s : State) : Bool :=
  match s.presented with
  | some w => decide (p.offered ≠ some w)
  | none => false

/-- The edge that accepts a command: an UPDATE begins on the datapath, every other command is performed whole
(10_state.md R25, 70_reset_and_hazards.md R215). -/
def acceptEdge (stall : Bool) (w : CmdWord) (s : State) : Host.Outcome State Fault Refusal :=
  match decode w with
  | .command i =>
    match updateOperand i with
    | some (len, data) => .next (s.advance stall (busyStart s.datapath s.acc (bytesOf data len)))
    | none => exec i s
  | .reserved op => .next (s.raiseReservedCommand op)

/-- An edge that accepts no command: a response may be taken, an UPDATE in progress goes on, and what the host presents
stays presented (R49, R51). -/
def waitEdge (stall : Bool) (p : PortIn) (s : State) : State :=
  let s := if responseTransfers p s then s.takeResponse else s
  let s := match s.busy with
    | some b => s.advance stall b
    | none => s
  s.present p.offered

/-- A reset edge: the block takes its reset values whatever the inputs are, and what the host presents at it stays
presented, for it has not transferred (20_memory.md R49, 70_reset_and_hazards.md R201, R203). -/
def resetEdge (p : PortIn) (s : State) : State := s.resetBlock.present p.offered

/-- One rising edge of `clk`. A host that breaks the handshake gets no edge (60_exceptions.md R187); of those that keep
it, reset wins over everything (R186, 70_reset_and_hazards.md R200, R203), and a block never reset gets no other edge
(R204). `stall` is whether the implementation makes an UPDATE wait at this edge (R214). -/
def clockEdge (stall : Bool) (p : PortIn) (s : State) : Host.Outcome State Fault Refusal :=
  if hostViolates p s then .refused .hostViolation
  else if p.rst then .next (resetEdge p s.tick)
  else if !s.initialised then .refused .neverReset
  else if commandTransfers p s then acceptEdge stall p.word (s.tick.present none)
  else .next (waitEdge stall p s.tick)

/-- The transaction that happens at an edge, if one does (00_scope.md R10). -/
def edgeEvent (p : PortIn) (s : State) : Option HostEvent :=
  if p.rst then some .reset
  else if commandTransfers p s then some (.command p.word)
  else if responseTransfers p s then some .take
  else none

/-- A run of edges, each with its stall and its inputs. -/
def clockRun : List (Bool × PortIn) → State → Host.Outcome State Fault Refusal
  | [], s => .next s
  | (stall, p) :: ps, s =>
    match clockEdge stall p s with
    | .next t => clockRun ps t
    | .fault r => .fault r
    | .refused r => .refused r

/-- The transactions of a run of edges, in order. -/
def clockEvents : List (Bool × PortIn) → State → List HostEvent
  | [], _ => []
  | (stall, p) :: ps, s =>
    match clockEdge stall p s with
    | .next t => (edgeEvent p s).toList ++ clockEvents ps t
    | .fault _ => []
    | .refused _ => []

/-- What both levels have in common: BUSY settled, and neither the port's memory, the host's list nor the draw counter
looked at. -/
def State.transactionView (s : State) : State :=
  { s.settle with presented := none, pending := [], draws := 0 }

end Sys2Proof.Machine
end

