-- ==== Sys2Proof/Safety.lean ====
section
/-! DEFINITION. The terms claims are stated in: a block that can accept, a run at its end, a run without error, and the
invariants of the error record and of the ports. -/

namespace Sys2Proof.Machine

/-- The block can accept a command: reset since power-on, BUSY clear, RSP empty (20_memory.md R50). -/
def State.Ready (s : State) : Prop := s.initialised = true ∧ s.busy = none ∧ s.rsp = none

/-- The run is quiescent (20_memory.md R54): no further event, BUSY clear, RSP empty. -/
def State.Quiescent (s : State) : Prop := s.pending = [] ∧ s.busy = none ∧ s.rsp = none

/-- The error record is the record of a reserved opcode or empty (10_state.md R23, 41_control_commands.md R106). Before
the first reset nothing is known of it (70_reset_and_hazards.md R204). -/
def State.ErrInv (s : State) : Prop :=
  s.initialised = true →
    (s.err = false → s.errop = 0x00) ∧ (s.err = true → isReserved s.errop = true)

/-- RSP and BUSY are never both in use (10_state.md R24, R25; 20_memory.md R50): a response is pending only while no
UPDATE is in progress. Before the first reset nothing is known of them. -/
def State.PortInv (s : State) : Prop := s.initialised = true → s.busy.isSome = true → s.rsp = none

/-- The bytes an event feeds: those of an UPDATE command (42_update_commands.md R120), else none. -/
def eventFed : HostEvent → List Byte
  | .command w =>
    match decode w with
    | .command i => fedBytes i
    | .reserved _ => []
  | .take => []
  | .reset => []
  | .powerLoss => []

/-- The event sets ACC anew: SEED, reset or a loss of power (10_state.md R20, R21). -/
def eventRestarts : HostEvent → Bool
  | .command w => decide (opField w = 0x01)
  | .take => false
  | .reset => true
  | .powerLoss => true

/-- The event is a STATUS command (41_control_commands.md R105). -/
def eventIsStatus : HostEvent → Bool
  | .command w => decide (opField w = 0x03)
  | .take => false
  | .reset => false
  | .powerLoss => false

/-- A command whose response, if it gives one, the host takes at once (70_reset_and_hazards.md R212). -/
def commandAndTake (i : Instr) : List HostEvent := [.command (encode i), .take]

/-- The command is NOP, READ or STATUS, the three that change neither ACC, ERR nor ERROP (20_memory.md R47). -/
def onlyLooks : Instr → Bool
  | .nop _ => true
  | .seed _ => false
  | .read _ => true
  | .status _ => true
  | .update1 _ => false
  | .update2 _ => false
  | .update3 _ => false
  | .update4 _ => false
  | .update5 _ => false
  | .update6 _ => false
  | .update7 _ => false
  | .update8 _ => false

/-- A response with the DATAPATH field of STATUS, bits 9:8, set to 0 (41_control_commands.md R106). -/
def maskDatapath (v : Word) : Word := v &&& 0xFFFFFCFF

/-- Inputs of an edge at which the host presents `w`, `rst` = 0 (20_memory.md R48). -/
def presenting (w : CmdWord) (rspReady : Bool) : PortIn :=
  { rst := false, cmdValid := true, cmdOp := opField w, cmdData := dataField w, rspReady := rspReady }

/-- Inputs of an edge at which the host does nothing, `rst` = 0. -/
def idleIn : PortIn := { rst := false, cmdValid := false, cmdOp := 0, cmdData := 0, rspReady := false }

/-- A run of `n` steps from `s` to `t`. -/
def Runs (n : Nat) (s t : State) : Prop := Sys2Proof.core.run n s = .next t

/-- A run without error: at its end ERR = 0 (93_implementation_defined.md, row 8). -/
def RunsClean (n : Nat) (s t : State) : Prop := Runs n s t ∧ t.err = false

end Sys2Proof.Machine
end

