-- ==== Sys2Proof/Certificates/Slice0/Obligations.lean ====
section
/-! DEFINITION. The statements for the provers, each with the rule it formalises. -/

open Sys2Proof Sys2Proof.Machine

/-! ### Encoding -/

/-- R63: the decoder, for every `op` and every `data`. -/
def Obligations.DecodeIsTheMap : Prop :=
  ∀ (op : Opcode) (d : Data),
    (op = 0x00 → decode (cmdWord op d) = .command (.nop d)) ∧
    (op = 0x01 → decode (cmdWord op d) = .command (.seed d)) ∧
    (op = 0x02 → decode (cmdWord op d) = .command (.read d)) ∧
    (op = 0x03 → decode (cmdWord op d) = .command (.status d)) ∧
    (op.extractLsb' 3 5 = 0b00010#5 →
      ∃ i, decode (cmdWord op d) = .command i ∧ updateOperand i = some ((op.extractLsb' 0 3).toNat + 1, d)) ∧
    (op ≠ 0x00 → op ≠ 0x01 → op ≠ 0x02 → op ≠ 0x03 → op.extractLsb' 3 5 ≠ 0b00010#5 →
      decode (cmdWord op d) = .reserved op)

/-- Decode and encode agree, both ways: no bit of a command word is dropped (R60, R62, R65). -/
def Obligations.DecodeEncode : Prop :=
  (∀ i : Instr, i.WellFormed → decode (encode i) = .command i) ∧
  (∀ (w : CmdWord) (i : Instr), decode w = .command i → encode i = w)

/-- R70: the worked encodings, assembled and compared with the words the spec prints. -/
def Obligations.EncodingExamples : Prop :=
  assemble (.seed 0) = some [0x01_0000000000000000] ∧
  assemble (.updBytes 4 [0x68, 0x65, 0x6C, 0x6C]) = some [0x13_000000006C6C6568] ∧
  assemble (.updBytes 2 [0x6F, 0x0A]) = some [0x11_0000000000000A6F] ∧
  assemble (.updBytes 8 [0x31, 0x32, 0x33, 0x34, 0x35, 0x36, 0x37, 0x38]) = some [0x17_3837363534333231] ∧
  assemble .read = some [0x02_0000000000000000] ∧
  assemble .status = some [0x03_0000000000000000] ∧
  assemble (.cmd 0x18 0x123) = some [0x18_0000000000000123]

/-- Words written out from the encoding of R60 to R62 decode to the commands they stand for. -/
def Obligations.DecodeWords : Prop :=
  decode 0x00_000000000000FFFF = .command (.nop 0xFFFF) ∧
  decode 0x01_DEADBEEFC1D04330 = .command (.seed 0xDEADBEEFC1D04330) ∧
  decode 0x02_0000000000000000 = .command (.read 0) ∧
  decode 0x03_0000000000000000 = .command (.status 0) ∧
  decode 0x10_FFFFFFFFFFFFFF62 = .command (.update1 0xFFFFFFFFFFFFFF62) ∧
  decode 0x17_3837363534333231 = .command (.update8 0x3837363534333231) ∧
  decode 0x04_0000000000000000 = .reserved 0x04 ∧
  decode 0x18_0000000000000123 = .reserved 0x18

/-- R65: data bits that a command does not use change nothing, whatever they hold; the assembler writes them as 0. -/
def Obligations.IgnoredBits : Prop :=
  (∀ (s : State) (d e : Data),
    exec (.nop d) s = exec (.nop e) s ∧
    exec (.read d) s = exec (.read e) s ∧
    exec (.status d) s = exec (.status e) s ∧
    (d.setWidth 32 = e.setWidth 32 → exec (.seed d) s = exec (.seed e) s) ∧
    (d.setWidth 8 = e.setWidth 8 → exec (.update1 d) s = exec (.update1 e) s) ∧
    (d.setWidth 16 = e.setWidth 16 → exec (.update2 d) s = exec (.update2 e) s) ∧
    (d.setWidth 24 = e.setWidth 24 → exec (.update3 d) s = exec (.update3 e) s) ∧
    (d.setWidth 32 = e.setWidth 32 → exec (.update4 d) s = exec (.update4 e) s) ∧
    (d.setWidth 40 = e.setWidth 40 → exec (.update5 d) s = exec (.update5 e) s) ∧
    (d.setWidth 48 = e.setWidth 48 → exec (.update6 d) s = exec (.update6 e) s) ∧
    (d.setWidth 56 = e.setWidth 56 → exec (.update7 d) s = exec (.update7 e) s) ∧
    (∀ op : Opcode, isReserved op = true →
      acceptCommand (cmdWord op d) s = acceptCommand (cmdWord op e) s)) ∧
  (∀ (a : Asm) (ws : List CmdWord), assemble a = some ws → (∀ op data, a ≠ .cmd op data) →
    ∀ w ∈ ws, ∃ i, decode w = .command i ∧ i.canonical = true)

/-! ### The commands -/

/-- R101: NOP. -/
def Obligations.NopMeaning : Prop :=
  ∀ (d : Data) (s : State),
    decode (cmdWord 0x00 d) = .command (.nop d) ∧ exec (.nop d) s = .next s

/-- R102: SEED, with what an implementation writes that holds the internal value. -/
def Obligations.SeedMeaning : Prop :=
  ∀ (d : Data) (s : State),
    decode (cmdWord 0x01 d) = .command (.seed d) ∧
    exec (.seed d) s = .next { s with acc := d.extractLsb' 0 32 } ∧
    State.internal { s with acc := d.extractLsb' 0 32 } = ~~~(d.extractLsb' 0 32) ∧
    exec (.seed 0xDEADBEEFC1D04330) s = .next { s with acc := 0xC1D04330 }

/-- R103: READ, with what an implementation responds that holds the internal value; after reset it responds 0, and the
block accepts nothing more until the host takes the response. -/
def Obligations.ReadMeaning : Prop :=
  (∀ (d : Data) (s : State),
    decode (cmdWord 0x02 d) = .command (.read d) ∧
    exec (.read d) s = .next { s with rsp := some s.acc } ∧
    s.acc = ~~~s.internal) ∧
  (∀ (d : Data) (dp : Datapath),
    exec (.read d) (State.resetOf dp) = .next { State.resetOf dp with rsp := some 0x00000000 }) ∧
  (∀ (d : Data) (s t : State) (w : CmdWord) (rest : List HostEvent), s.Ready →
    exec (.read d) { s with pending := .command w :: rest } = .next t → step t = .fault .stuck)

/-- R105, R106: STATUS responds a word with ERR in bit 0, the DATAPATH code in bits 9:8, ERROP in bits 23:16 and every
other bit 0; ERROP reads 0x00 while ERR = 0; the worked example of R105 and the word after reset; no command writes what
STATUS reads. -/
def Obligations.StatusMeaning : Prop :=
  (∀ (d : Data) (s : State), decode (cmdWord 0x03 d) = .command (.status d) ∧
    ∃ v : Word, exec (.status d) s = .next { s with rsp := some v } ∧
      v.extractLsb' 0 1 = BitVec.ofBool s.err ∧
      v.extractLsb' 1 7 = 0 ∧
      v.extractLsb' 8 2 = dpCode s.datapath ∧
      v.extractLsb' 10 6 = 0 ∧
      v.extractLsb' 16 8 = s.errop ∧
      v.extractLsb' 24 8 = 0 ∧
      (s.initialised = true → s.ErrInv → s.err = false → v.extractLsb' 16 8 = 0)) ∧
  (∀ (d : Data) (dp : Datapath),
    exec (.status d) (State.resetOf dp) =
      .next { State.resetOf dp with rsp := some ((dpCode dp).setWidth 32 <<< 8) }) ∧
  (∀ d : Data, acceptCommand 0x18_0000000000000123 (State.resetOf .slice8) =
      .next { State.resetOf .slice8 with err := true, errop := 0x18 } ∧
    exec (.status d) { State.resetOf .slice8 with err := true, errop := 0x18 } =
      .next { State.resetOf .slice8 with err := true, errop := 0x18, rsp := some 0x00180301 }) ∧
  (dpCode .bitSerial = 0 ∧ dpCode .byte = 1 ∧ dpCode .slice4 = 2 ∧ dpCode .slice8 = 3) ∧
  (∀ (i : Instr) (s t : State), exec i s = .next t → t.err = s.err ∧ t.errop = s.errop ∧ t.datapath = s.datapath)

/-- R120: UPDATEL, for every L, with both forms of its result. -/
def Obligations.UpdateMeaning : Prop :=
  ∀ (len : Nat) (d : Data) (s : State), 1 ≤ len → len ≤ 8 →
    ∃ i, decode (cmdWord (BitVec.ofNat 8 (0x10 + (len - 1))) d) = .command i ∧
      updateOperand i = some (len, d) ∧
      exec i s = .next { s with acc := crc32c s.acc (bytesOf d len) } ∧
      crc32c s.acc (bytesOf d len) =
        (List.range len).foldl (fun c k => step8 c (d.extractLsb' (8 * k) 8)) (s.acc ^^^ 0xFFFFFFFF) ^^^ 0xFFFFFFFF

/-- R121 to R124: UPDATE1 to UPDATE4, the bytes named one by one, with the corner cases and the examples. -/
def Obligations.Update1To4 : Prop :=
  (∀ (d : Data) (s : State),
    exec (.update1 d) s = .next (s.setAcc (crc32c s.acc [d.extractLsb' 0 8])) ∧
    exec (.update2 d) s = .next (s.setAcc (crc32c s.acc [d.extractLsb' 0 8, d.extractLsb' 8 8])) ∧
    exec (.update3 d) s =
      .next (s.setAcc (crc32c s.acc [d.extractLsb' 0 8, d.extractLsb' 8 8, d.extractLsb' 16 8])) ∧
    exec (.update4 d) s =
      .next (s.setAcc (crc32c s.acc
        [d.extractLsb' 0 8, d.extractLsb' 8 8, d.extractLsb' 16 8, d.extractLsb' 24 8])) ∧
    (∀ v, s.setAcc v = { s with acc := v }) ∧
    (∀ t u, exec (.update1 d) s = .next t → exec (.update1 ((d.extractLsb' 8 8).setWidth 64)) t = .next u →
      exec (.update2 d) s = .next u) ∧
    (d.extractLsb' 0 32 = s.acc → exec (.update4 d) s = .next { s with acc := 0x48674BC7 })) ∧
  (∀ (s : State), s.acc = 0 →
    exec (.update1 0x61) s = .next { s with acc := 0xC1D04330 } ∧
    exec (.update1 0x00) s = .next { s with acc := 0x527D5351 } ∧
    exec (.update1 0xFF) s = .next { s with acc := 0xFF000000 } ∧
    exec (.update3 0x6C6568) s = .next { s with acc := 0x8F25666D } ∧
    exec (.update4 0) s = .next { s with acc := 0x48674BC7 } ∧
    exec (.update4 0xFFFFFFFF) s = .next { s with acc := 0xFFFFFFFF } ∧
    exec (.update1 0x0807060504030201) s = .next { s with acc := 0xA016D052 } ∧
    exec (.update2 0x0807060504030201) s = .next { s with acc := 0x03F89F52 } ∧
    exec (.update3 0x0807060504030201) s = .next { s with acc := 0xF130F21E } ∧
    exec (.update4 0x0807060504030201) s = .next { s with acc := 0x29308CF4 })

/-- R125 to R128: UPDATE5 to UPDATE8, the bytes named one by one, with the corner cases and the examples. -/
def Obligations.Update5To8 : Prop :=
  (∀ (d : Data) (s : State),
    exec (.update5 d) s =
      .next (s.setAcc (crc32c s.acc
        [d.extractLsb' 0 8, d.extractLsb' 8 8, d.extractLsb' 16 8, d.extractLsb' 24 8, d.extractLsb' 32 8])) ∧
    exec (.update6 d) s =
      .next (s.setAcc (crc32c s.acc
        [d.extractLsb' 0 8, d.extractLsb' 8 8, d.extractLsb' 16 8, d.extractLsb' 24 8, d.extractLsb' 32 8,
         d.extractLsb' 40 8])) ∧
    exec (.update7 d) s =
      .next (s.setAcc (crc32c s.acc
        [d.extractLsb' 0 8, d.extractLsb' 8 8, d.extractLsb' 16 8, d.extractLsb' 24 8, d.extractLsb' 32 8,
         d.extractLsb' 40 8, d.extractLsb' 48 8])) ∧
    exec (.update8 d) s =
      .next (s.setAcc (crc32c s.acc
        [d.extractLsb' 0 8, d.extractLsb' 8 8, d.extractLsb' 16 8, d.extractLsb' 24 8, d.extractLsb' 32 8,
         d.extractLsb' 40 8, d.extractLsb' 48 8, d.extractLsb' 56 8])) ∧
    (∀ v, s.setAcc v = { s with acc := v }) ∧
    exec (.update7 (0xFF#8 ++ d.setWidth 56)) s = exec (.update7 d) s) ∧
  (∀ (c c4 : Word) (d : Data) (b : Byte),
    datapathClock .slice4 (.bytes c (bytesOf d 5)) =
      .bytes (slice4Step c (d.extractLsb' 0 32)) [d.extractLsb' 32 8] ∧
    datapathClock .slice4 (.bytes c4 [b]) = .bytes (tableStep c4 b) []) ∧
  (∀ (s : State), s.acc = 0 →
    exec (.update6 0x00000A6F6C6C6568) s = .next { s with acc := 0x353DD8BE } ∧
    exec (.update8 0x3837363534333231) s = .next { s with acc := 0x6087809A } ∧
    exec (.update1 0x39) { s with acc := 0x6087809A } = .next { s with acc := 0xE3069283 } ∧
    exec (.update5 0x0807060504030201) s = .next { s with acc := 0x53518FAB } ∧
    exec (.update6 0x0807060504030201) s = .next { s with acc := 0x4F4DFBAB } ∧
    exec (.update7 0x0807060504030201) s = .next { s with acc := 0xBD3A64DC } ∧
    exec (.update8 0x0807060504030201) s = .next { s with acc := 0x46891F81 }) ∧
  (∀ (s : State), s.acc = 0x12345678 →
    ∃ a b c, exec (.update8 0) s = .next a ∧ exec (.update8 0) a = .next b ∧ exec (.update8 0) b = .next c ∧
      exec (.update8 0) c = .next { s with acc := 0x90C2769D })

/-- The frame of the twelve commands: every command answers a next state in which only ACC (SEED and the UPDATEs) or
RSP (READ and STATUS) may differ. No command stores to a memory: the block has none (R40). -/
def Obligations.CommandFrame : Prop :=
  ∀ (i : Instr) (s : State), ∃ t, exec i s = .next t ∧
    t.err = s.err ∧ t.errop = s.errop ∧ t.busy = s.busy ∧ t.datapath = s.datapath ∧
    t.initialised = s.initialised ∧ t.presented = s.presented ∧ t.pending = s.pending ∧ t.taken = s.taken ∧
    t.draws = s.draws ∧
    (onlyLooks i = true → t.acc = s.acc) ∧
    ((∀ d, i ≠ .read d) → (∀ d, i ≠ .status d) → t.rsp = s.rsp)

/-- An UPDATE of length L leaves the ACC that L UPDATE1 commands leave, each with its byte in the low bits of its data,
whatever the bits above hold (R42). -/
def Obligations.MixedWidths : Prop :=
  ∀ (i : Instr) (len : Nat) (d : Data) (x : Nat → Data) (s : State) (rest : List HostEvent), s.Ready →
    updateOperand i = some (len, d) → (∀ k, k < len → byteOf (x k) 0 = byteOf d k) →
    s.pending = (List.range len).map (fun k => .command (encode (.update1 (x k)))) ++ rest →
    ∃ t u, Runs len s t ∧ exec i s = .next u ∧ t.acc = u.acc ∧ t.pending = rest

/-! ### The CRC-32C function -/

/-- R83: incremental composability, "the defining algebraic property". -/
def Obligations.Composability : Prop :=
  ∀ (seed : Word) (a b : List Byte), crc32c (crc32c seed a) b = crc32c seed (a ++ b)

/-- R84: seed identity. -/
def Obligations.SeedIdentity : Prop :=
  ∀ seed : Word, crc32c seed [] = seed

/-- R87: the affine law. -/
def Obligations.AffineLaw : Prop :=
  ∀ (s1 s2 s3 : Word) (x1 x2 x3 : List Byte), x1.length = x2.length → x2.length = x3.length →
    crc32c s1 x1 ^^^ crc32c s2 x2 ^^^ crc32c s3 x3 =
      crc32c (s1 ^^^ s2 ^^^ s3)
        (List.zipWith (fun a b => a ^^^ b) (List.zipWith (fun a b => a ^^^ b) x1 x2) x3)

/-- Changing one byte of the data, in one bit or in several, changes the checksum. The second clause is R88; the first,
any change to a byte, goes beyond it and is derived from R80 and R81. -/
def Obligations.SingleByteSensitivity : Prop :=
  (∀ (seed : Word) (pre post : List Byte) (b b' : Byte), b ≠ b' →
    crc32c seed (pre ++ b :: post) ≠ crc32c seed (pre ++ b' :: post)) ∧
  (∀ (seed : Word) (pre post : List Byte) (b : Byte) (j : Nat), j < 8 →
    crc32c seed (pre ++ (b ^^^ (1#8 <<< j)) :: post) ≠ crc32c seed (pre ++ b :: post))

/-- R89: seed 0xFFFFFFFF is a fixed point of zero bytes, and a block seeded with it keeps it while zero bytes are
fed. -/
def Obligations.FixedPoint : Prop :=
  (∀ n : Nat, crc32c 0xFFFFFFFF (List.replicate n 0x00) = 0xFFFFFFFF) ∧
  step8 0 0x00 = 0 ∧
  (∀ (i : Instr) (len : Nat) (s : State), updateOperand i = some (len, 0) → s.acc = 0xFFFFFFFF → exec i s = .next s)

/-- A second fixed point of zero bytes: ACC = 0x035BD250. It follows from R80 and R81, which are normative (R141), and it
is against the aside of R120 that UPDATE2 with data 0 "changes ACC unless ACC = 0xFFFFFFFF" (log 12). -/
def Obligations.SecondFixedPoint : Prop :=
  (∀ n : Nat, crc32c 0x035BD250 (List.replicate n 0x00) = 0x035BD250) ∧
  (∀ s : State, s.acc = 0x035BD250 → exec (.update2 0) s = .next s)

/-- R90: the residue. -/
def Obligations.Residue : Prop :=
  ∀ (seed : Word) (x : List Byte),
    crc32c seed (x ++
      [(crc32c seed x).extractLsb' 0 8, (crc32c seed x).extractLsb' 8 8, (crc32c seed x).extractLsb' 16 8,
       (crc32c seed x).extractLsb' 24 8]) = 0x48674BC7

/-- R141 and the identity of R1: the polynomial is the bit reversal of 0x1EDC6F41, and the source's three vectors
hold. -/
def Obligations.GroundTruth : Prop :=
  polynomial = (0x1EDC6F41#32).reverse ∧
  crc32c 0 [] = 0x00000000 ∧
  crc32c 0 [0x61] = 0xC1D04330 ∧
  crc32c 0 [0x68, 0x65, 0x6C, 0x6C, 0x6F, 0x0A] = 0x353DD8BE

/-- R26, R142: an implementation may keep ~ACC and skip both inversions. -/
def Obligations.InternalForm : Prop :=
  ∀ (acc : Word) (s : List Byte), ~~~(crc32c acc s) = crcLoop (~~~acc) s

/-! ### The datapaths -/

/-- R144: the polynomial datapath after j of the eight clocks of a byte, and after all eight. -/
def Obligations.BitSerialStep : Prop :=
  ∀ (c : Word) (b : Byte),
    (∀ j : Nat, j ≤ 8 →
      shiftTimes j (c ^^^ b.setWidth 32) = lfsrLoop c ((bitsOf b).take j) ^^^ (b.setWidth 32 >>> j)) ∧
    lfsrLoop c (bitsOf b) = step8 c b

/-- R146: the table step. -/
def Obligations.TableStep : Prop :=
  ∀ (c : Word) (b : Byte) (s : List Byte),
    step8 c b = (c >>> 8) ^^^ table 0 ((c ^^^ b.setWidth 32).extractLsb' 0 8) ∧
    datapathClock .byte (.bytes c (b :: s)) = .bytes (step8 c b) s

/-- R147: the slice tables, and what an entry is. -/
def Obligations.SliceTables : Prop :=
  ∀ (k : Nat) (i : Byte),
    table (k + 1) i = (table k i >>> 8) ^^^ table 0 ((table k i).extractLsb' 0 8) ∧
    table k i = crcLoop 0 (i :: List.replicate k 0x00)

/-- R152: the printed tables are the recomputed ones. -/
def Obligations.PrintedTables : Prop :=
  ∀ k : Nat, k < 8 → (romTable k).length = 256 ∧ ∀ i : Byte, romEntry k i = table k i

/-- R148: the step on four bytes. -/
def Obligations.Slice4 : Prop :=
  ∀ (c w : Word) (s : List Byte),
    slice4Step c w =
      (table 3 ((c ^^^ w).extractLsb' 0 8) ^^^ table 2 ((c ^^^ w).extractLsb' 8 8) ^^^
        table 1 ((c ^^^ w).extractLsb' 16 8) ^^^ table 0 ((c ^^^ w).extractLsb' 24 8)) ∧
    slice4Step c w =
      tableStep (tableStep (tableStep (tableStep c (w.extractLsb' 0 8)) (w.extractLsb' 8 8)) (w.extractLsb' 16 8))
        (w.extractLsb' 24 8) ∧
    datapathClock .slice4 (.bytes c (le32 w ++ s)) = .bytes (slice4Step c w) s

/-- R149: the step on eight bytes. -/
def Obligations.Slice8 : Prop :=
  ∀ (c : Word) (d : Data),
    datapathClock .slice8 (.bytes c (bytesOf d 8)) =
      .bytes (table 7 ((c ^^^ d.extractLsb' 0 32).extractLsb' 0 8) ^^^
        table 6 ((c ^^^ d.extractLsb' 0 32).extractLsb' 8 8) ^^^
        table 5 ((c ^^^ d.extractLsb' 0 32).extractLsb' 16 8) ^^^
        table 4 ((c ^^^ d.extractLsb' 0 32).extractLsb' 24 8) ^^^
        table 3 (d.extractLsb' 32 8) ^^^ table 2 (d.extractLsb' 40 8) ^^^
        table 1 (d.extractLsb' 48 8) ^^^ table 0 (d.extractLsb' 56 8)) [] ∧
    datapathClock .slice8 (.bytes c (bytesOf d 8)) = .bytes ((bytesOf d 8).foldl tableStep c) []

/-- R140: the conformance contract, for every datapath, every ACC and every UPDATE. -/
def Obligations.Conformance : Prop :=
  ∀ (dp : Datapath) (acc : Word) (len : Nat) (d : Data), 1 ≤ len → len ≤ 8 →
    datapathUpdate dp acc (bytesOf d len) = crc32c acc (bytesOf d len)

/-! ### Steps of the transaction level -/

/-- A step runs the decoded command: a ready block performs the command the host presents, the host's list is one
shorter and the draw counter, the model's own field, one further (R43, R49; log 2, log 4). -/
def Obligations.StepRunsDecoded : Prop :=
  ∀ (s : State) (w : CmdWord) (rest : List HostEvent) (i : Instr), s.Ready → s.pending = .command w :: rest →
    decode w = .command i → i.WellFormed →
    step s = exec i { s with pending := rest, draws := s.draws + 1 }

/-- R181: an accepted reserved command sets ERR, records the first opcode, changes nothing else and leaves the block
ready; the reserved opcodes are exactly those R66 lists. The host's list and the draw counter are the model's (log 2,
log 4). -/
def Obligations.ReservedCommand : Prop :=
  (∀ (op : Opcode) (d : Data), decode (cmdWord op d) = .reserved op ↔
    ((0x04 ≤ op.toNat ∧ op.toNat ≤ 0x0F) ∨ (0x18 ≤ op.toNat ∧ op.toNat ≤ 0xFF))) ∧
  (∀ (s : State) (op : Opcode) (d : Data) (rest : List HostEvent), s.Ready →
    s.pending = .command (cmdWord op d) :: rest →
    ((0x04 ≤ op.toNat ∧ op.toNat ≤ 0x0F) ∨ (0x18 ≤ op.toNat ∧ op.toNat ≤ 0xFF)) →
    ∃ t, step s = .next t ∧ t.Ready ∧
      t = { s with err := true, errop := if s.err = false then op else s.errop, pending := rest,
                   draws := s.draws + 1 })

/-- The host takes the response: RSP becomes empty and the host has the word; with RSP empty it has no effect
(R51, R47). -/
def Obligations.TakeResponse : Prop :=
  ∀ (s : State) (rest : List HostEvent), s.initialised = true → s.busy = none → s.pending = .take :: rest →
    (∀ v, s.rsp = some v →
      step s = .next { s with rsp := none, taken := s.taken ++ [v], pending := rest, draws := s.draws + 1 }) ∧
    (s.rsp = none → step s = .next { s with pending := rest, draws := s.draws + 1 })

/-- R201, R202: reset, from any state: an UPDATE in progress and a response not taken are discarded, DATAPATH is
unchanged, and the next READ responds 0. `State.reset` holds the same values. -/
def Obligations.ResetValues : Prop :=
  (∀ (s : State) (rest : List HostEvent), s.pending = .reset :: rest →
    ∃ t, step s = .next t ∧ t.acc = 0x00000000 ∧ t.internal = 0xFFFFFFFF ∧ t.err = false ∧ t.errop = 0x00 ∧
      t.rsp = none ∧ t.busy = none ∧ t.datapath = s.datapath ∧ t.taken = s.taken ∧
      (∀ d, exec (.read d) t = .next { t with rsp := some (crc32c 0 []) } ∧ crc32c 0 [] = 0x00000000)) ∧
  (State.reset.acc = 0x00000000 ∧ State.reset.err = false ∧ State.reset.errop = 0x00 ∧ State.reset.rsp = none ∧
    State.reset.busy = none ∧ State.reset.datapath = Config.datapath)

/-- R212: while RSP is full the block accepts nothing, and a host that does not take the response waits for ever. -/
def Obligations.ResponseFirst : Prop :=
  ∀ (s : State) (v : Word), s.initialised = true → s.busy = none → s.rsp = some v →
    (∀ w rest, s.pending = .command w :: rest → step s = .fault .stuck) ∧
    (s.pending = [] → step s = .fault .stuck) ∧
    (∀ rest, s.pending = .take :: rest → ∃ t, step s = .next t ∧ t.rsp = none ∧ t.pending = rest)

/-- A run is quiescent exactly where the step says so (R54; that the end of a run is a named stop is log 6). -/
def Obligations.QuiescentRun : Prop :=
  ∀ s : State, s.initialised = true → (step s = .fault .quiescent ↔ s.Quiescent)

/-- A block never reset since power-on does nothing but be reset (R204, R194): anything else is refused, and a loss of
power brings back that condition. -/
def Obligations.NeverReset : Prop :=
  (∀ s : State, s.initialised = false → (∀ rest, s.pending ≠ .reset :: rest) →
    (∀ rest, s.pending ≠ .powerLoss :: rest) → step s = .refused .neverReset) ∧
  (∀ (s : State) (rest : List HostEvent), s.pending = .powerLoss :: rest →
    ∃ t, step s = .next t ∧ t.initialised = false ∧ t.datapath = s.datapath ∧ t.pending = rest)

/-- R184: ERR and ERROP are cleared only by reset; no command clears them, and a second reserved command changes
neither (loss of power, which leaves the block without any known state, apart: R194). -/
def Obligations.ErrorIsSticky : Prop :=
  ∀ s t : State, step s = .next t → s.err = true →
    (∀ rest, s.pending ≠ .reset :: rest) → (∀ rest, s.pending ≠ .powerLoss :: rest) →
    t.err = true ∧ t.errop = s.errop

/-- ERR never affects how any other command computes (R22, R183): run the same events from a state with another error
record, and all but that record is the same at the end. STATUS, which responds the record, is left out. -/
def Obligations.ErrorHasNoEffect : Prop :=
  ∀ (n : Nat) (s t : State) (e : Bool) (op : Opcode), Runs n s t →
    (∀ ev ∈ s.pending.take n, eventIsStatus ev = false) →
    ∃ t', Runs n { s with err := e, errop := op } t' ∧ { t' with err := t.err, errop := t.errop } = t

/-- DATAPATH changes no response and no final state, but for the DATAPATH field of a STATUS response. Derived from R216
and in one respect less than it: in a run that holds a STATUS, bits 9:8 are left out of every response compared, a
READ's among them; that a READ responds ACC whole is `ReadMeaning`, and ACC is compared whole here. -/
def Obligations.DatapathHasNoEffect : Prop :=
  ∀ (n : Nat) (s t : State) (dp : Datapath), s.busy = none → Runs n s t →
    ∃ t', Runs n { s with datapath := dp } t' ∧
      t'.acc = t.acc ∧ t'.err = t.err ∧ t'.errop = t.errop ∧ t'.pending = t.pending ∧
      t'.rsp.map maskDatapath = t.rsp.map maskDatapath ∧
      t'.taken.map maskDatapath = t.taken.map maskDatapath ∧
      ((∀ ev ∈ s.pending.take n, eventIsStatus ev = false) → { t' with datapath := t.datapath } = t)

/-- What ACC holds (R130): at every point of a session it is the checksum, from the value the session began with, of the
bytes the UPDATE commands fed, whatever other commands, reserved ones among them, stand between. -/
def Obligations.SessionValue : Prop :=
  ∀ (n : Nat) (s t : State), s.busy = none → Runs n s t →
    (∀ ev ∈ s.pending.take n, eventRestarts ev = false) →
    t.acc = crc32c s.acc ((s.pending.take n).flatMap eventFed)

/-- R129: however a byte sequence is cut into UPDATE commands, they leave the checksum of the whole. -/
def Obligations.SplitInvariance : Prop :=
  ∀ (chunks : List (List Byte)) (s : State) (rest : List HostEvent), s.Ready →
    (∀ c ∈ chunks, 1 ≤ c.length ∧ c.length ≤ 8) →
    s.pending = chunks.map (fun c => .command (updWord c.length (packBytes c))) ++ rest →
    ∃ t, Runs chunks.length s t ∧ t.Ready ∧ t.pending = rest ∧ t.acc = crc32c s.acc chunks.flatten

/-- R175: the pseudo-instruction `crc seed, data` responds `crc32c(seed, data)`. -/
def Obligations.CrcEntryPoint : Prop :=
  ∀ (s : State) (seed : Word) (bytes : List Byte) (rest : List HostEvent), s.Ready →
    s.pending = crcMemEvents seed bytes ++ rest →
    ∃ t, Runs (crcMemEvents seed bytes).length s t ∧ t.Ready ∧ t.pending = rest ∧
      t.taken = s.taken ++ [crc32c seed bytes] ∧ t.acc = crc32c seed bytes ∧ t.err = s.err ∧ t.errop = s.errop

/-- R104: READ is idempotent, with only NOP, STATUS or READ commands between, and the ACC a later UPDATE starts from is
the one before. -/
def Obligations.ReadIsIdempotent : Prop :=
  ∀ (s : State) (d e : Data) (between : List Instr) (rest : List HostEvent), s.Ready →
    (∀ i ∈ between, onlyLooks i = true) →
    s.pending = commandAndTake (.read d) ++ between.flatMap commandAndTake ++ commandAndTake (.read e) ++ rest →
    ∃ t mid, Runs (2 * between.length + 4) s t ∧ t.taken = s.taken ++ [s.acc] ++ mid ++ [s.acc] ∧
      t.acc = s.acc ∧ t.pending = rest ∧ t.Ready

/-- Responses come out in the order of their commands, one at a time (R44). -/
def Obligations.ResponsesInOrder : Prop :=
  ∀ s t : State, step s = .next t →
    t.taken = s.taken ∨ ∃ v, s.rsp = some v ∧ t.rsp = none ∧ t.taken = s.taken ++ [v]

/-- Only SEED, the UPDATEs, reset and a loss of power touch ACC (R20). -/
def Obligations.OnlyTheseTouchAcc : Prop :=
  ∀ s t : State, s.busy = none → step s = .next t → t.acc ≠ s.acc →
    ∃ ev rest, s.pending = ev :: rest ∧ (eventRestarts ev = true ∨ eventFed ev ≠ [])

/-! ### Invariants -/

/-- Every step keeps the error record well formed: ERROP is 0x00 while ERR = 0, and a reserved opcode, so never 0x00,
while ERR = 1 (R23, R106). -/
def Obligations.ErrorRecordInvariant : Prop :=
  ∀ s t : State, s.ErrInv → step s = .next t →
    t.ErrInv ∧ (t.initialised = true → t.err = true → t.errop ≠ 0x00)

/-- Every step and every clock edge keeps RSP and BUSY apart: no response is pending while an UPDATE is in progress
(R24, R25, R50). -/
def Obligations.PortInvariant : Prop :=
  (∀ s t : State, s.PortInv → step s = .next t → t.PortInv) ∧
  (∀ (stall : Bool) (p : PortIn) (s t : State), s.PortInv → clockEdge stall p s = .next t → t.PortInv)

/-- No step of the transaction level begins a BUSY (R25). -/
def Obligations.NoBusyTransaction : Prop :=
  ∀ s t : State, (s.initialised = true → s.busy = none) → step s = .next t → t.initialised = true → t.busy = none

/-- The invariants hold at reset. -/
def Obligations.InvariantsAtReset : Prop :=
  State.reset.ErrInv ∧ State.reset.PortInv ∧ State.reset.busy = none ∧ State.reset.Ready

/-! ### The clock level -/

/-- R50: `cmd_ready`, and that no command is accepted without it. -/
def Obligations.CommandReady : Prop :=
  (∀ (rst : Bool) (s : State) (o : PortOut), ports rst s = some o →
    (o.cmdReady = true ↔ rst = false ∧ s.busy = none ∧ s.rsp = none)) ∧
  (∀ (p : PortIn) (s : State) (w : CmdWord), (p.rst = true ∨ s.busy ≠ none ∨ s.rsp ≠ none) →
    edgeEvent p s ≠ some (.command w))

/-- The response and error outputs: `rsp_valid` while RSP is full, `rsp_data` its word while `rsp_valid` = 1 and else the
free value of log 2, `rsp_valid` 0 during reset, and `err` equal to ERR (R51, R52, R203; that `rsp_valid` falls with
`rst` itself is log 7). -/
def Obligations.OutputLevels : Prop :=
  ∀ (rst : Bool) (s : State) (o : PortOut), ports rst s = some o →
    o.err = s.err ∧
    (rst = true → o.rspValid = false ∧ o.cmdReady = false) ∧
    (rst = false → (o.rspValid = true ↔ ∃ v, s.rsp = some v)) ∧
    (∀ v, rst = false → s.rsp = some v → o.rspData = v) ∧
    (o.rspValid = false → o.rspData = Config.idleRspData s.draws)

/-- Reset wins at an edge over a command and over a response being taken, for every host that keeps the handshake: the
registers come to their reset values whatever the inputs, the stall and the UPDATE in progress are (R186, R202, R203).
Three clauses are the model's choices: `taken` stays as it was even with RSP full and `rsp_ready` = 1, where R186 says
only that RSP becomes empty "either way" (log 7); what the host presents at the edge stays presented (log 8); the draw
counter advances (log 2). -/
def Obligations.ResetWins : Prop :=
  ∀ (stall : Bool) (p : PortIn) (s : State), p.rst = true →
    (∀ w, s.presented = some w → p.cmdValid = true ∧ p.word = w) →
    clockEdge stall p s = .next { s with acc := 0x00000000, err := false, errop := 0x00, rsp := none, busy := none,
                                         initialised := true, draws := s.draws + 1,
                                         presented := if p.cmdValid = true then some p.word else none }

/-- A host that changes or withdraws a command it presented and that has not transferred is refused an edge, a reset
edge among them (R49, R187; that reset does not end the obligation is log 8). -/
def Obligations.HostViolationRefused : Prop :=
  ∀ (stall : Bool) (p : PortIn) (s : State) (w : CmdWord), s.presented = some w →
    (p.cmdValid = false ∨ p.word ≠ w) → clockEdge stall p s = .refused .hostViolation

/-- A host that keeps the handshake always gets an edge: no command and no data value stops the block; a command is
presented until the edge at which it transfers, across reset edges too (R49, R180; log 8). -/
def Obligations.EdgeCompletes : Prop :=
  ∀ (stall : Bool) (p : PortIn) (s : State), (s.initialised = true ∨ p.rst = true) →
    (∀ w, s.presented = some w → p.cmdValid = true ∧ p.word = w) →
    ∃ t, clockEdge stall p s = .next t ∧
      (p.cmdValid = true → p.rst = false → s.busy = none → s.rsp = none → t.presented = none) ∧
      (p.cmdValid = true → (p.rst = true ∨ s.busy ≠ none ∨ s.rsp ≠ none) → t.presented = some p.word) ∧
      (p.cmdValid = false → t.presented = none)

/-- An edge at which a command transfers runs the decoded command: a control command on every datapath, so that RSP is
full from the next cycle on after READ and STATUS (R51), and an UPDATE on SLICE8 without a stall (R215). What was
presented is no longer, and the draw counter advances (log 8, log 2). -/
def Obligations.EdgeRunsDecoded : Prop :=
  ∀ (stall : Bool) (p : PortIn) (s : State) (i : Instr), s.Ready → p.rst = false → p.cmdValid = true →
    (∀ w, s.presented = some w → p.word = w) → decode p.word = .command i →
    (updateOperand i = none ∨ (s.datapath = .slice8 ∧ stall = false)) →
    clockEdge stall p s = exec i { s with presented := none, draws := s.draws + 1 }

/-- R10, R210, a run: every run of clock edges performs the transactions that happen along it, in their order and one
step each, and ends in the same state, whatever the number of cycles between them. -/
def Obligations.RunRefinesTransactions : Prop :=
  ∀ (edges : List (Bool × PortIn)) (s t : State), s.PortInv → clockRun edges s = .next t →
    ∃ u, Runs (clockEvents edges s).length { s.transactionView with pending := clockEvents edges s } u ∧
      u.transactionView = t.transactionView

/-- The nominal timing of R215 when no edge stalls: after the transfer edge of UPDATEL and further edges, the datapath
is BUSY until the last of its cycles, and then ACC holds the result. The formulas are the spec's; an implementation may
take more cycles (R214; log 9). -/
def Obligations.NominalTiming : Prop :=
  ∀ (s : State) (i : Instr) (len : Nat) (d : Data) (n : Nat), s.Ready → s.presented = none →
    updateOperand i = some (len, d) →
    (s.datapath = .bitSerial → n + 1 = 8 * len) → (s.datapath = .byte → n + 1 = len) →
    (s.datapath = .slice4 → n + 1 = len / 4 + len % 4) → (s.datapath = .slice8 → n + 1 = 1) →
    (∃ t, clockRun ((false, presenting (encode i) false) :: List.replicate n (false, idleIn)) s = .next t ∧
      t.busy = none ∧ t.acc = crc32c s.acc (bytesOf d len)) ∧
    (∀ m, m < n → ∃ t, clockRun ((false, presenting (encode i) false) :: List.replicate m (false, idleIn)) s = .next t ∧
      t.busy ≠ none ∧ t.acc = s.acc)

/-! ### The assembler and the host adapter -/

/-- `feed` expands to commands that feed exactly the bytes, in order, none of them reserved (R69). -/
def Obligations.FeedExpansion : Prop :=
  ∀ bytes : List Byte, (writeEvents bytes).flatMap eventFed = bytes ∧
    (∀ w ∈ feedWords bytes, ∃ i, decode w = .command i ∧ onlyLooks i = false) ∧
    (feedWords bytes).length = (bytes.length + 7) / 8

/-- An adapter that owns a block: creating it, any writes and `finish` give on the block the response that `finish`
duplicates into both halves, and ACC is the adapter's value, unchanged by `finish` (R170 to R173). Both ways R170 allows
of creating it are stated: `seed 0`, which the model's `newEvents` chooses (log 14), and relying on ACC = 0 with no
command at all. -/
def Obligations.AdapterOnBlock : Prop :=
  (∀ (s : State) (writes : List (List Byte)) (create rest : List HostEvent), s.Ready →
    (create = newEvents ∨ (create = [] ∧ s.acc = 0)) →
    s.pending = create ++ writes.flatMap writeEvents ++ finishEvents ++ rest →
    ∃ t r, Runs (create ++ writes.flatMap writeEvents ++ finishEvents).length s t ∧ t.Ready ∧ t.pending = rest ∧
      t.taken = s.taken ++ [r] ∧ duplicate r = (writes.foldl Adapter.write newAdapter).finish ∧
      t.acc = (writes.foldl Adapter.write newAdapter).sum) ∧
  (∀ a : Adapter, a.finish = a.sum ++ a.sum ∧
    a.finish.extractLsb' 32 32 = a.sum ∧ a.finish.extractLsb' 0 32 = a.sum)
end

