-- ==== Sys2Proof/Laws/Crc.lean ====
section
/-! SUPPORT. What the shift and the byte step do with XOR, and the loops over appended sequences: the lemmas from which
the laws of 40_crc_core.md and the datapath equalities of 43_datapath_variants.md follow. -/

namespace Sys2Proof.Machine

/-- One shift is linear. -/
theorem shiftOnce_xor (a b : Word) : shiftOnce (a ^^^ b) = shiftOnce a ^^^ shiftOnce b := by
  unfold shiftOnce
  rw [BitVec.getLsbD_xor, BitVec.ushiftRight_xor_distrib]
  cases a.getLsbD 0 <;> cases b.getLsbD 0 <;> simp
  · ac_rfl
  · ac_rfl
  · have h : a >>> 1 ^^^ polynomial ^^^ (b >>> 1 ^^^ polynomial) =
        a >>> 1 ^^^ b >>> 1 ^^^ (polynomial ^^^ polynomial) := by ac_rfl
    simp [h]

/-- Any number of shifts is linear. -/
theorem shiftTimes_xor (n : Nat) (a b : Word) :
    shiftTimes n (a ^^^ b) = shiftTimes n a ^^^ shiftTimes n b := by
  induction n generalizing a b with
  | zero => rfl
  | succ n ih => simp only [shiftTimes, shiftOnce_xor, ih]

/-- Shifts of a value whose low bits are 0 only move it down. -/
theorem shiftTimes_of_low_zero (n : Nat) (x : Word) (h : ∀ j < n, x.getLsbD j = false) :
    shiftTimes n x = x >>> n := by
  induction n generalizing x with
  | zero => simp [shiftTimes]
  | succ n ih =>
    have h0 : shiftOnce x = x >>> 1 := by unfold shiftOnce; rw [h 0 (by omega)]; rfl
    rw [shiftTimes, h0, ih]
    · rw [← BitVec.shiftRight_add]; congr 1; omega
    · intro j hj; simpa [BitVec.getLsbD_ushiftRight] using h (1 + j) (by omega)

/-- The byte step is linear in value and byte jointly. -/
theorem step8_xor (a b : Word) (x y : Byte) : step8 (a ^^^ b) (x ^^^ y) = step8 a x ^^^ step8 b y := by
  unfold step8
  rw [← shiftTimes_xor]
  congr 1
  simp only [BitVec.setWidth_xor]
  ac_rfl

@[simp] theorem crcLoop_nil (c : Word) : crcLoop c [] = c := rfl

@[simp] theorem crcLoop_cons (c : Word) (b : Byte) (s : List Byte) :
    crcLoop c (b :: s) = crcLoop (step8 c b) s := rfl

/-- The loop over two sequences, one after the other. -/
theorem crcLoop_append (c : Word) (a b : List Byte) : crcLoop c (a ++ b) = crcLoop (crcLoop c a) b := by
  induction a generalizing c with
  | nil => rfl
  | cons x a ih => exact ih _

/-- A difference of the value runs through the loop on its own, over zero bytes. -/
theorem crcLoop_xor_zeros (a b : Word) (s : List Byte) :
    crcLoop (a ^^^ b) s = crcLoop a s ^^^ crcLoop b (List.replicate s.length 0) := by
  induction s generalizing a b with
  | nil => rfl
  | cons v s ih =>
    simp only [crcLoop, List.length_cons, List.replicate_succ]
    rw [← ih, ← step8_xor]
    simp

@[simp] theorem lfsrLoop_nil (c : Word) : lfsrLoop c [] = c := rfl

@[simp] theorem lfsrLoop_cons (c : Word) (d : Bool) (ds : List Bool) :
    lfsrLoop c (d :: ds) = lfsrLoop (lfsrClock c d) ds := rfl

/-- The polynomial datapath over two streams, one after the other. -/
theorem lfsrLoop_append (c : Word) (a b : List Bool) : lfsrLoop c (a ++ b) = lfsrLoop (lfsrLoop c a) b := by
  induction a generalizing c with
  | nil => rfl
  | cons x a ih => exact ih _

/-- Consumed data: the value is the result. -/
theorem busyFinal_of_done (b : Busy) (h : busyDone b = true) : busyFinal b = busyValue b := by
  cases b <;> simp_all [busyDone, busyFinal, busyValue]

end Sys2Proof.Machine
end

