-- ==== Sys2Proof/Laws/State.lean ====
section
/-! SUPPORT. One lemma per field of State and update of it, true by rfl. -/

namespace Sys2Proof.Machine

@[simp] theorem State.setAcc_acc (s : State) (v : Word) : (s.setAcc v).acc = v := rfl
@[simp] theorem State.setAcc_err (s : State) (v : Word) : (s.setAcc v).err = s.err := rfl
@[simp] theorem State.setAcc_errop (s : State) (v : Word) : (s.setAcc v).errop = s.errop := rfl
@[simp] theorem State.setAcc_rsp (s : State) (v : Word) : (s.setAcc v).rsp = s.rsp := rfl
@[simp] theorem State.setAcc_busy (s : State) (v : Word) : (s.setAcc v).busy = s.busy := rfl
@[simp] theorem State.setAcc_datapath (s : State) (v : Word) : (s.setAcc v).datapath = s.datapath := rfl
@[simp] theorem State.setAcc_initialised (s : State) (v : Word) : (s.setAcc v).initialised = s.initialised := rfl
@[simp] theorem State.setAcc_presented (s : State) (v : Word) : (s.setAcc v).presented = s.presented := rfl
@[simp] theorem State.setAcc_pending (s : State) (v : Word) : (s.setAcc v).pending = s.pending := rfl
@[simp] theorem State.setAcc_taken (s : State) (v : Word) : (s.setAcc v).taken = s.taken := rfl
@[simp] theorem State.setAcc_draws (s : State) (v : Word) : (s.setAcc v).draws = s.draws := rfl

@[simp] theorem State.respond_acc (s : State) (v : Word) : (s.respond v).acc = s.acc := rfl
@[simp] theorem State.respond_err (s : State) (v : Word) : (s.respond v).err = s.err := rfl
@[simp] theorem State.respond_errop (s : State) (v : Word) : (s.respond v).errop = s.errop := rfl
@[simp] theorem State.respond_rsp (s : State) (v : Word) : (s.respond v).rsp = some v := rfl
@[simp] theorem State.respond_busy (s : State) (v : Word) : (s.respond v).busy = s.busy := rfl
@[simp] theorem State.respond_datapath (s : State) (v : Word) : (s.respond v).datapath = s.datapath := rfl
@[simp] theorem State.respond_initialised (s : State) (v : Word) : (s.respond v).initialised = s.initialised := rfl
@[simp] theorem State.respond_presented (s : State) (v : Word) : (s.respond v).presented = s.presented := rfl
@[simp] theorem State.respond_pending (s : State) (v : Word) : (s.respond v).pending = s.pending := rfl
@[simp] theorem State.respond_taken (s : State) (v : Word) : (s.respond v).taken = s.taken := rfl
@[simp] theorem State.respond_draws (s : State) (v : Word) : (s.respond v).draws = s.draws := rfl

@[simp] theorem State.raiseReservedCommand_acc (s : State) (op : Opcode) : (s.raiseReservedCommand op).acc = s.acc := rfl
@[simp] theorem State.raiseReservedCommand_err (s : State) (op : Opcode) : (s.raiseReservedCommand op).err = true := rfl
@[simp] theorem State.raiseReservedCommand_errop (s : State) (op : Opcode) : (s.raiseReservedCommand op).errop = captureOp s.err s.errop op := rfl
@[simp] theorem State.raiseReservedCommand_rsp (s : State) (op : Opcode) : (s.raiseReservedCommand op).rsp = s.rsp := rfl
@[simp] theorem State.raiseReservedCommand_busy (s : State) (op : Opcode) : (s.raiseReservedCommand op).busy = s.busy := rfl
@[simp] theorem State.raiseReservedCommand_datapath (s : State) (op : Opcode) : (s.raiseReservedCommand op).datapath = s.datapath := rfl
@[simp] theorem State.raiseReservedCommand_initialised (s : State) (op : Opcode) : (s.raiseReservedCommand op).initialised = s.initialised := rfl
@[simp] theorem State.raiseReservedCommand_presented (s : State) (op : Opcode) : (s.raiseReservedCommand op).presented = s.presented := rfl
@[simp] theorem State.raiseReservedCommand_pending (s : State) (op : Opcode) : (s.raiseReservedCommand op).pending = s.pending := rfl
@[simp] theorem State.raiseReservedCommand_taken (s : State) (op : Opcode) : (s.raiseReservedCommand op).taken = s.taken := rfl
@[simp] theorem State.raiseReservedCommand_draws (s : State) (op : Opcode) : (s.raiseReservedCommand op).draws = s.draws := rfl

@[simp] theorem State.resetBlock_acc (s : State) : (s.resetBlock).acc = 0x00000000 := rfl
@[simp] theorem State.resetBlock_err (s : State) : (s.resetBlock).err = false := rfl
@[simp] theorem State.resetBlock_errop (s : State) : (s.resetBlock).errop = 0x00 := rfl
@[simp] theorem State.resetBlock_rsp (s : State) : (s.resetBlock).rsp = none := rfl
@[simp] theorem State.resetBlock_busy (s : State) : (s.resetBlock).busy = none := rfl
@[simp] theorem State.resetBlock_datapath (s : State) : (s.resetBlock).datapath = s.datapath := rfl
@[simp] theorem State.resetBlock_initialised (s : State) : (s.resetBlock).initialised = true := rfl
@[simp] theorem State.resetBlock_presented (s : State) : (s.resetBlock).presented = s.presented := rfl
@[simp] theorem State.resetBlock_pending (s : State) : (s.resetBlock).pending = s.pending := rfl
@[simp] theorem State.resetBlock_taken (s : State) : (s.resetBlock).taken = s.taken := rfl
@[simp] theorem State.resetBlock_draws (s : State) : (s.resetBlock).draws = s.draws := rfl

@[simp] theorem State.losePower_acc (s : State) : (s.losePower).acc = Config.powerOnAcc s.draws := rfl
@[simp] theorem State.losePower_err (s : State) : (s.losePower).err = Config.powerOnErr s.draws := rfl
@[simp] theorem State.losePower_errop (s : State) : (s.losePower).errop = Config.powerOnErrop s.draws := rfl
@[simp] theorem State.losePower_rsp (s : State) : (s.losePower).rsp = Config.powerOnRsp s.draws := rfl
@[simp] theorem State.losePower_busy (s : State) : (s.losePower).busy = Config.powerOnBusy s.draws := rfl
@[simp] theorem State.losePower_datapath (s : State) : (s.losePower).datapath = s.datapath := rfl
@[simp] theorem State.losePower_initialised (s : State) : (s.losePower).initialised = false := rfl
@[simp] theorem State.losePower_presented (s : State) : (s.losePower).presented = s.presented := rfl
@[simp] theorem State.losePower_pending (s : State) : (s.losePower).pending = s.pending := rfl
@[simp] theorem State.losePower_taken (s : State) : (s.losePower).taken = s.taken := rfl
@[simp] theorem State.losePower_draws (s : State) : (s.losePower).draws = s.draws := rfl

@[simp] theorem State.tick_acc (s : State) : (s.tick).acc = s.acc := rfl
@[simp] theorem State.tick_err (s : State) : (s.tick).err = s.err := rfl
@[simp] theorem State.tick_errop (s : State) : (s.tick).errop = s.errop := rfl
@[simp] theorem State.tick_rsp (s : State) : (s.tick).rsp = s.rsp := rfl
@[simp] theorem State.tick_busy (s : State) : (s.tick).busy = s.busy := rfl
@[simp] theorem State.tick_datapath (s : State) : (s.tick).datapath = s.datapath := rfl
@[simp] theorem State.tick_initialised (s : State) : (s.tick).initialised = s.initialised := rfl
@[simp] theorem State.tick_presented (s : State) : (s.tick).presented = s.presented := rfl
@[simp] theorem State.tick_pending (s : State) : (s.tick).pending = s.pending := rfl
@[simp] theorem State.tick_taken (s : State) : (s.tick).taken = s.taken := rfl
@[simp] theorem State.tick_draws (s : State) : (s.tick).draws = s.draws + 1 := rfl

@[simp] theorem State.consume_acc (s : State) (rest : List HostEvent) : (s.consume rest).acc = s.acc := rfl
@[simp] theorem State.consume_err (s : State) (rest : List HostEvent) : (s.consume rest).err = s.err := rfl
@[simp] theorem State.consume_errop (s : State) (rest : List HostEvent) : (s.consume rest).errop = s.errop := rfl
@[simp] theorem State.consume_rsp (s : State) (rest : List HostEvent) : (s.consume rest).rsp = s.rsp := rfl
@[simp] theorem State.consume_busy (s : State) (rest : List HostEvent) : (s.consume rest).busy = s.busy := rfl
@[simp] theorem State.consume_datapath (s : State) (rest : List HostEvent) : (s.consume rest).datapath = s.datapath := rfl
@[simp] theorem State.consume_initialised (s : State) (rest : List HostEvent) : (s.consume rest).initialised = s.initialised := rfl
@[simp] theorem State.consume_presented (s : State) (rest : List HostEvent) : (s.consume rest).presented = s.presented := rfl
@[simp] theorem State.consume_pending (s : State) (rest : List HostEvent) : (s.consume rest).pending = rest := rfl
@[simp] theorem State.consume_taken (s : State) (rest : List HostEvent) : (s.consume rest).taken = s.taken := rfl
@[simp] theorem State.consume_draws (s : State) (rest : List HostEvent) : (s.consume rest).draws = s.draws + 1 := rfl

@[simp] theorem State.present_acc (s : State) (w : Option CmdWord) : (s.present w).acc = s.acc := rfl
@[simp] theorem State.present_err (s : State) (w : Option CmdWord) : (s.present w).err = s.err := rfl
@[simp] theorem State.present_errop (s : State) (w : Option CmdWord) : (s.present w).errop = s.errop := rfl
@[simp] theorem State.present_rsp (s : State) (w : Option CmdWord) : (s.present w).rsp = s.rsp := rfl
@[simp] theorem State.present_busy (s : State) (w : Option CmdWord) : (s.present w).busy = s.busy := rfl
@[simp] theorem State.present_datapath (s : State) (w : Option CmdWord) : (s.present w).datapath = s.datapath := rfl
@[simp] theorem State.present_initialised (s : State) (w : Option CmdWord) : (s.present w).initialised = s.initialised := rfl
@[simp] theorem State.present_presented (s : State) (w : Option CmdWord) : (s.present w).presented = w := rfl
@[simp] theorem State.present_pending (s : State) (w : Option CmdWord) : (s.present w).pending = s.pending := rfl
@[simp] theorem State.present_taken (s : State) (w : Option CmdWord) : (s.present w).taken = s.taken := rfl
@[simp] theorem State.present_draws (s : State) (w : Option CmdWord) : (s.present w).draws = s.draws := rfl

@[simp] theorem State.offer_acc (s : State) (w : CmdWord) : (s.offer w).acc = s.acc := rfl
@[simp] theorem State.offer_err (s : State) (w : CmdWord) : (s.offer w).err = s.err := rfl
@[simp] theorem State.offer_errop (s : State) (w : CmdWord) : (s.offer w).errop = s.errop := rfl
@[simp] theorem State.offer_rsp (s : State) (w : CmdWord) : (s.offer w).rsp = none := rfl
@[simp] theorem State.offer_busy (s : State) (w : CmdWord) : (s.offer w).busy = none := rfl
@[simp] theorem State.offer_datapath (s : State) (w : CmdWord) : (s.offer w).datapath = s.datapath := rfl
@[simp] theorem State.offer_initialised (s : State) (w : CmdWord) : (s.offer w).initialised = true := rfl
@[simp] theorem State.offer_presented (s : State) (w : CmdWord) : (s.offer w).presented = s.presented := rfl
@[simp] theorem State.offer_pending (s : State) (w : CmdWord) : (s.offer w).pending = .command w :: s.pending := rfl
@[simp] theorem State.offer_taken (s : State) (w : CmdWord) : (s.offer w).taken = s.taken := rfl
@[simp] theorem State.offer_draws (s : State) (w : CmdWord) : (s.offer w).draws = s.draws := rfl

/-! Taking a response and settling an UPDATE look at one field first. -/

@[simp] theorem State.takeResponse_some (s : State) (v : Word) (h : s.rsp = some v) :
    s.takeResponse = { s with rsp := none, taken := s.taken ++ [v] } := by simp [State.takeResponse, h]

@[simp] theorem State.takeResponse_none (s : State) (h : s.rsp = none) : s.takeResponse = s := by
  simp [State.takeResponse, h]

@[simp] theorem State.settle_busy (s : State) (b : Busy) (h : s.busy = some b) :
    s.settle = { s with acc := busyFinal b ^^^ inversion, busy := none } := by simp [State.settle, h]

@[simp] theorem State.settle_idle (s : State) (h : s.busy = none) : s.settle = s := by simp [State.settle, h]

@[simp] theorem State.takeResponse_acc (s : State) : s.takeResponse.acc = s.acc := by
  cases h : s.rsp <;> simp [State.takeResponse, h]
@[simp] theorem State.takeResponse_err (s : State) : s.takeResponse.err = s.err := by
  cases h : s.rsp <;> simp [State.takeResponse, h]
@[simp] theorem State.takeResponse_errop (s : State) : s.takeResponse.errop = s.errop := by
  cases h : s.rsp <;> simp [State.takeResponse, h]
@[simp] theorem State.takeResponse_busy (s : State) : s.takeResponse.busy = s.busy := by
  cases h : s.rsp <;> simp [State.takeResponse, h]
@[simp] theorem State.takeResponse_datapath (s : State) : s.takeResponse.datapath = s.datapath := by
  cases h : s.rsp <;> simp [State.takeResponse, h]
@[simp] theorem State.takeResponse_initialised (s : State) : s.takeResponse.initialised = s.initialised := by
  cases h : s.rsp <;> simp [State.takeResponse, h]
@[simp] theorem State.takeResponse_presented (s : State) : s.takeResponse.presented = s.presented := by
  cases h : s.rsp <;> simp [State.takeResponse, h]
@[simp] theorem State.takeResponse_pending (s : State) : s.takeResponse.pending = s.pending := by
  cases h : s.rsp <;> simp [State.takeResponse, h]
@[simp] theorem State.takeResponse_draws (s : State) : s.takeResponse.draws = s.draws := by
  cases h : s.rsp <;> simp [State.takeResponse, h]
@[simp] theorem State.takeResponse_rsp (s : State) : s.takeResponse.rsp = none := by
  cases h : s.rsp <;> simp [State.takeResponse, h]

@[simp] theorem State.holdBusy_err (s : State) (b : Busy) : (s.holdBusy b).err = s.err := by
  simp only [State.holdBusy]; split <;> rfl
@[simp] theorem State.holdBusy_errop (s : State) (b : Busy) : (s.holdBusy b).errop = s.errop := by
  simp only [State.holdBusy]; split <;> rfl
@[simp] theorem State.holdBusy_rsp (s : State) (b : Busy) : (s.holdBusy b).rsp = s.rsp := by
  simp only [State.holdBusy]; split <;> rfl
@[simp] theorem State.holdBusy_datapath (s : State) (b : Busy) : (s.holdBusy b).datapath = s.datapath := by
  simp only [State.holdBusy]; split <;> rfl
@[simp] theorem State.holdBusy_initialised (s : State) (b : Busy) : (s.holdBusy b).initialised = s.initialised := by
  simp only [State.holdBusy]; split <;> rfl
@[simp] theorem State.holdBusy_presented (s : State) (b : Busy) : (s.holdBusy b).presented = s.presented := by
  simp only [State.holdBusy]; split <;> rfl
@[simp] theorem State.holdBusy_pending (s : State) (b : Busy) : (s.holdBusy b).pending = s.pending := by
  simp only [State.holdBusy]; split <;> rfl
@[simp] theorem State.holdBusy_taken (s : State) (b : Busy) : (s.holdBusy b).taken = s.taken := by
  simp only [State.holdBusy]; split <;> rfl
@[simp] theorem State.holdBusy_draws (s : State) (b : Busy) : (s.holdBusy b).draws = s.draws := by
  simp only [State.holdBusy]; split <;> rfl
@[simp] theorem State.advance_err (s : State) (stall : Bool) (b : Busy) : (s.advance stall b).err = s.err := by
  simp only [State.advance]; split <;> simp
@[simp] theorem State.advance_errop (s : State) (stall : Bool) (b : Busy) : (s.advance stall b).errop = s.errop := by
  simp only [State.advance]; split <;> simp
@[simp] theorem State.advance_rsp (s : State) (stall : Bool) (b : Busy) : (s.advance stall b).rsp = s.rsp := by
  simp only [State.advance]; split <;> simp
@[simp] theorem State.advance_datapath (s : State) (stall : Bool) (b : Busy) : (s.advance stall b).datapath = s.datapath := by
  simp only [State.advance]; split <;> simp
@[simp] theorem State.advance_initialised (s : State) (stall : Bool) (b : Busy) : (s.advance stall b).initialised = s.initialised := by
  simp only [State.advance]; split <;> simp
@[simp] theorem State.advance_presented (s : State) (stall : Bool) (b : Busy) : (s.advance stall b).presented = s.presented := by
  simp only [State.advance]; split <;> simp
@[simp] theorem State.advance_pending (s : State) (stall : Bool) (b : Busy) : (s.advance stall b).pending = s.pending := by
  simp only [State.advance]; split <;> simp
@[simp] theorem State.advance_taken (s : State) (stall : Bool) (b : Busy) : (s.advance stall b).taken = s.taken := by
  simp only [State.advance]; split <;> simp
@[simp] theorem State.advance_draws (s : State) (stall : Bool) (b : Busy) : (s.advance stall b).draws = s.draws := by
  simp only [State.advance]; split <;> simp

end Sys2Proof.Machine
end

