-- ==== Sys2Proof/Laws/Ops.lean ====
section
/-! SUPPORT. What a step, an accepted command and a clock edge can do, each said once. -/

namespace Sys2Proof.Machine

/-- Every command answers a next state (60_exceptions.md R180). -/
theorem exec_next (i : Instr) (s : State) : ∃ t, exec i s = .next t := by
  cases i <;> exact ⟨_, rfl⟩

/-- What a command can do: write ACC (NOP: with the value it has) or fill RSP. -/
theorem exec_cases {i : Instr} {s t : State} (h : exec i s = .next t) :
    (∃ v, t = s.setAcc v) ∨ (∃ v, t = s.respond v) := by
  cases i <;> injection h with h <;> subst h <;>
    first
      | exact .inl ⟨_, rfl⟩
      | exact .inr ⟨_, rfl⟩

/-- What accepting a command word can do. -/
theorem acceptCommand_cases {w : CmdWord} {s t : State} (h : acceptCommand w s = .next t) :
    (∃ i, decode w = .command i ∧ exec i s = .next t) ∨
    (∃ op, decode w = .reserved op ∧ t = s.raiseReservedCommand op) := by
  unfold acceptCommand at h
  split at h
  · exact .inl ⟨_, ‹_›, h⟩
  · injection h with h; exact .inr ⟨_, ‹_›, h.symm⟩

/-- What a step can do: reset, a loss of power, an internal cycle of an UPDATE, the taking of a response, or a
command (00_scope.md R9, R10). -/
theorem step_cases {s t : State} (h : step s = .next t) :
    (∃ rest, s.pending = .reset :: rest ∧ t = (s.consume rest).resetBlock) ∨
    (∃ rest, s.pending = .powerLoss :: rest ∧ t = (s.consume rest).losePower) ∨
    (∃ b, s.initialised = true ∧ s.busy = some b ∧ t = s.tick.advance false b) ∨
    (∃ rest, s.pending = .take :: rest ∧ s.initialised = true ∧ s.busy = none ∧
      t = (s.consume rest).takeResponse) ∨
    (∃ w rest, s.pending = .command w :: rest ∧ s.initialised = true ∧ s.busy = none ∧ s.rsp = none ∧
      acceptCommand w (s.consume rest) = .next t) := by
  unfold step transact at h
  split at h
  · unfold serveNothing at h
    split at h
    · split at h
      · injection h with h; exact .inr (.inr (.inl ⟨_, ‹_›, ‹_›, h.symm⟩))
      · split at h <;> cases h
    · cases h
  · rename_i e rest hp
    unfold serveEvent at h
    split at h
    · injection h with h; exact .inl ⟨rest, hp, h.symm⟩
    · injection h with h; exact .inr (.inl ⟨rest, hp, h.symm⟩)
    · split at h
      · split at h
        · injection h with h; exact .inr (.inr (.inl ⟨_, ‹_›, ‹_›, h.symm⟩))
        · injection h with h; exact .inr (.inr (.inr (.inl ⟨rest, hp, ‹_›, ‹_›, h.symm⟩)))
      · cases h
    · split at h
      · split at h
        · injection h with h; exact .inr (.inr (.inl ⟨_, ‹_›, ‹_›, h.symm⟩))
        · split at h
          · cases h
          · exact .inr (.inr (.inr (.inr ⟨_, rest, hp, ‹_›, ‹_›, by simpa using ‹¬ s.rsp.isSome = true›, h⟩)))
      · cases h

/-- What an edge that accepts a command can do. -/
theorem acceptEdge_cases {stall : Bool} {w : CmdWord} {s t : State} (h : acceptEdge stall w s = .next t) :
    (∃ i len data, decode w = .command i ∧ updateOperand i = some (len, data) ∧
      t = s.advance stall (busyStart s.datapath s.acc (bytesOf data len))) ∨
    (∃ i, decode w = .command i ∧ updateOperand i = none ∧ exec i s = .next t) ∨
    (∃ op, decode w = .reserved op ∧ t = s.raiseReservedCommand op) := by
  unfold acceptEdge at h
  split at h
  · split at h
    · injection h with h; exact .inl ⟨_, _, _, ‹_›, ‹_›, h.symm⟩
    · exact .inr (.inl ⟨_, ‹_›, ‹_›, h⟩)
  · injection h with h; exact .inr (.inr ⟨_, ‹_›, h.symm⟩)

/-- What a clock edge can do. -/
theorem clockEdge_cases {stall : Bool} {p : PortIn} {s t : State} (h : clockEdge stall p s = .next t) :
    (p.rst = true ∧ hostViolates p s = false ∧ t = resetEdge p s.tick) ∨
    (p.rst = false ∧ s.initialised = true ∧ hostViolates p s = false ∧ commandTransfers p s = true ∧
      acceptEdge stall p.word (s.tick.present none) = .next t) ∨
    (p.rst = false ∧ s.initialised = true ∧ hostViolates p s = false ∧ commandTransfers p s = false ∧
      t = waitEdge stall p s.tick) := by
  unfold clockEdge at h
  cases hv : hostViolates p s <;> cases hr : p.rst <;> cases hi : s.initialised <;>
    cases hc : commandTransfers p s <;> simp_all

/-- A host that presents again what it had presented, if it had, keeps the handshake (20_memory.md R49). -/
theorem hostViolates_iff (p : PortIn) (s : State) :
    hostViolates p s = true ↔ ∃ w, s.presented = some w ∧ (p.cmdValid = false ∨ p.word ≠ w) := by
  unfold hostViolates PortIn.offered
  cases s.presented <;> cases p.cmdValid <;> simp

@[simp] theorem resetEdge_eq (p : PortIn) (s : State) : resetEdge p s = s.resetBlock.present p.offered := rfl

/-- While `rsp_valid` = 1, `rsp_data` is the word RSP holds. -/
theorem rspData_valid {s : State} {v : Word} (h : s.rsp = some v) : rspData false s = v := by
  simp [rspData, rspValid, h]

/-- While `rsp_valid` = 0, during reset among others, `rsp_data` is the free value. -/
theorem rspData_idle {rst : Bool} {s : State} (h : rspValid rst s = false) :
    rspData rst s = Config.idleRspData s.draws := by
  simp [rspData, h]

/-- A command transfers exactly at an edge where the host presents one and the block can accept it (20_memory.md
R49, R50). -/
theorem commandTransfers_iff (p : PortIn) (s : State) :
    commandTransfers p s = true ↔ p.cmdValid = true ∧ p.rst = false ∧ s.busy = none ∧ s.rsp = none := by
  simp [commandTransfers, cmdReady, and_assoc]

/-- A run of no steps. -/
theorem runs_zero (s t : State) : Sys2Proof.core.run 0 s = .next t ↔ s = t :=
  ⟨fun h => Host.Outcome.next.inj h, fun h => congrArg Host.Outcome.next h⟩

/-- A run of one step more, on any machine. -/
theorem run_succ (M : Host.Core) (n : Nat) (s t : M.State) :
    M.run (n + 1) s = .next t ↔ ∃ u, M.step s = .next u ∧ M.run n u = .next t := by
  rw [Host.Core.run]
  cases M.step s with
  | next u => simp
  | fault r => simp
  | refused r => simp

/-- A run of one step more. -/
theorem runs_succ (n : Nat) (s t : State) :
    Sys2Proof.core.run (n + 1) s = .next t ↔ ∃ u, step s = .next u ∧ Sys2Proof.core.run n u = .next t :=
  run_succ Sys2Proof.core n s t

end Sys2Proof.Machine
end

