-- ==== Sys2Proof/Laws/PerInstr.lean ====
section
/-! SUPPORT. Facts about every instruction as syntax, one lemma per constructor. -/

namespace Sys2Proof.Laws.EncodedFields

/-- The word of a command holds its opcode and its whole operand, and its opcode is not a reserved one (30_encoding.md
R60, R62). -/
def Statement (i : Instr) : Prop :=
  opField (encode i) = opcodeOf i ∧ dataField (encode i) = i.data ∧ isReserved (opcodeOf i) = false

theorem fields (op : Opcode) (d : Data) : opField (cmdWord op d) = op ∧ dataField (cmdWord op d) = d := by
  constructor <;> ext j hj
  · have h := BitVec.getLsbD_append (x := op) (y := d) (i := 64 + j)
    simp [opField, cmdWord, h, BitVec.getLsbD_eq_getElem hj]
  · have h := BitVec.getLsbD_append (x := op) (y := d) (i := j)
    simp [dataField, cmdWord, h, hj]

theorem nop (data : Data) : Statement (.nop data) := ⟨(fields _ _).1, (fields _ _).2, rfl⟩
theorem seed (data : Data) : Statement (.seed data) := ⟨(fields _ _).1, (fields _ _).2, rfl⟩
theorem read (data : Data) : Statement (.read data) := ⟨(fields _ _).1, (fields _ _).2, rfl⟩
theorem status (data : Data) : Statement (.status data) := ⟨(fields _ _).1, (fields _ _).2, rfl⟩
theorem update1 (data : Data) : Statement (.update1 data) := ⟨(fields _ _).1, (fields _ _).2, rfl⟩
theorem update2 (data : Data) : Statement (.update2 data) := ⟨(fields _ _).1, (fields _ _).2, rfl⟩
theorem update3 (data : Data) : Statement (.update3 data) := ⟨(fields _ _).1, (fields _ _).2, rfl⟩
theorem update4 (data : Data) : Statement (.update4 data) := ⟨(fields _ _).1, (fields _ _).2, rfl⟩
theorem update5 (data : Data) : Statement (.update5 data) := ⟨(fields _ _).1, (fields _ _).2, rfl⟩
theorem update6 (data : Data) : Statement (.update6 data) := ⟨(fields _ _).1, (fields _ _).2, rfl⟩
theorem update7 (data : Data) : Statement (.update7 data) := ⟨(fields _ _).1, (fields _ _).2, rfl⟩
theorem update8 (data : Data) : Statement (.update8 data) := ⟨(fields _ _).1, (fields _ _).2, rfl⟩

end Sys2Proof.Laws.EncodedFields
end

