-- ==== Sys2Proof/Tests/Slice0.lean ====
section
/-! SUPPORT. Tests, their expected values taken from spec/95_test_vectors.md or the rule named, and for every statement
with hypotheses a witness that meets them. -/

namespace Sys2Proof.Tests

open Sys2Proof.Machine

/-- A block after reset, with the given ACC and host events. -/
def block (dp : Datapath) (acc : Word) (pending : List HostEvent) : State :=
  { State.resetOf dp with acc := acc, pending := pending }

/-- A block that has met the reserved opcode 0x18. -/
def failed (acc : Word) (pending : List HostEvent) : State :=
  { State.resetOf .slice8 with acc := acc, err := true, errop := 0x18, pending := pending }

/-- ACC of an outcome that is a next state. -/
def accOf : Host.Outcome State Fault Refusal → Option Word
  | .next s => some s.acc
  | .fault _ => none
  | .refused _ => none

/-- RSP of an outcome that is a next state. -/
def rspOf : Host.Outcome State Fault Refusal → Option Word
  | .next s => s.rsp
  | .fault _ => none
  | .refused _ => none

/-- The error record of an outcome that is a next state. -/
def errOf : Host.Outcome State Fault Refusal → Option (Bool × Opcode)
  | .next s => some (s.err, s.errop)
  | .fault _ => none
  | .refused _ => none

/-- The data word of the examples of 42_update_commands.md. -/
def ramp : Data := 0x0807060504030201

/-! ### Decoding: words written out from 30_encoding.md R60 to R62 (op in bits 71:64) -/

theorem test_decode_nop : decode 0x00_000000000000FFFF = .command (.nop 0xFFFF) := by decide
theorem test_decode_seed : decode 0x01_DEADBEEFC1D04330 = .command (.seed 0xDEADBEEFC1D04330) := by decide
theorem test_decode_read : decode 0x02_0000000000000000 = .command (.read 0) := by decide
theorem test_decode_status : decode 0x03_0000000000000000 = .command (.status 0) := by decide
theorem test_decode_update1 : decode 0x10_0000000000000061 = .command (.update1 0x61) := by decide
theorem test_decode_update2 : decode 0x11_0000000000000A6F = .command (.update2 0x0A6F) := by decide
theorem test_decode_update3 : decode 0x12_00000000006C6568 = .command (.update3 0x6C6568) := by decide
theorem test_decode_update4 : decode 0x13_000000006C6C6568 = .command (.update4 0x6C6C6568) := by decide
theorem test_decode_update5 : decode 0x14_0807060504030201 = .command (.update5 ramp) := by decide
theorem test_decode_update6 : decode 0x15_00000A6F6C6C6568 = .command (.update6 0x0A6F6C6C6568) := by decide
theorem test_decode_update7 : decode 0x16_FF00000000000000 = .command (.update7 0xFF00000000000000) := by
  decide
theorem test_decode_update8 : decode 0x17_3837363534333231 = .command (.update8 0x3837363534333231) := by
  decide

/-- The neighbours of the reserved ranges (spec/95_test_vectors.md 2.6). -/
theorem test_decode_reserved :
    decode 0x04_0000000000000000 = .reserved 0x04 ∧ decode 0x0F_0000000000000000 = .reserved 0x0F ∧
    decode 0x18_0000000000000123 = .reserved 0x18 ∧ decode 0xFF_FFFFFFFFFFFFFFFF = .reserved 0xFF := by
  decide

theorem test_decodeTableWord :
    decodeTableWord 72 0x17_3837363534333231 = some (.update8 0x3837363534333231) ∧
    decodeTableWord 72 0x18_0000000000000000 = none ∧ decodeTableWord 80 0 = none := by decide

/-! ### Well-formedness: every term is a command; the assembler's form is a check of its own -/

theorem test_wellFormed : (Instr.update1 0xFFFFFFFFFFFFFFFF).WellFormed := trivial

theorem smoke_canonical_nop : (Instr.nop 1).canonical = false := by decide
theorem smoke_canonical_seed : (Instr.seed 0x100000000).canonical = false := by decide
theorem smoke_canonical_read : (Instr.read 1).canonical = false := by decide
theorem smoke_canonical_status : (Instr.status 1).canonical = false := by decide
theorem smoke_canonical_updates :
    (Instr.update1 0x100).canonical = false ∧ (Instr.update2 0x10000).canonical = false ∧
    (Instr.update3 0x1000000).canonical = false ∧ (Instr.update4 0x100000000).canonical = false ∧
    (Instr.update5 0x10000000000).canonical = false ∧ (Instr.update6 0x1000000000000).canonical = false ∧
    (Instr.update7 0x100000000000000).canonical = false := by decide
theorem smoke_asm_seed : assemble (.seed 0x100000000) = none := by decide
theorem smoke_asm_upd_range : assemble (.upd 1 256) = none := by decide
theorem smoke_asm_upd_length : assemble (.upd 0 0) = none ∧ assemble (.upd 9 0) = none := by decide
theorem smoke_asm_bytes_count : assemble (.updBytes 2 [1]) = none := by decide
theorem smoke_asm_bytes_length : assemble (.updBytes 0 []) = none ∧
    assemble (.updBytes 9 [1, 2, 3, 4, 5, 6, 7, 8, 9]) = none := by decide
theorem smoke_asm_bytes_range : assemble (.updBytes 1 [256]) = none := by decide
theorem smoke_asm_cmd_op : assemble (.cmd 256 0) = none := by decide
theorem smoke_asm_cmd_data : assemble (.cmd 0 0x10000000000000000) = none := by decide
theorem smoke_asm_feed : assemble (.feed [256]) = none := by decide
theorem smoke_asm_feedString : assemble (.feedString ['é']) = none := by decide
theorem smoke_asm_crc_seed : assemble (.crc 0x100000000 []) = none := by decide
theorem smoke_asm_crc_bytes : assemble (.crc 0 [256]) = none := by decide

/-- `crc 0, "hello\n"`, program P4's words and R69's expansion. -/
theorem test_asm_crc : assemble (.crc 0 [0x68, 0x65, 0x6C, 0x6C, 0x6F, 0x0A]) =
    some [0x01_0000000000000000, 0x15_00000A6F6C6C6568, 0x02_0000000000000000] := by decide

/-- Program P2's `feed "123456789"`. -/
theorem test_asm_feedString : assemble (.feedString ['1', '2', '3', '4', '5', '6', '7', '8', '9']) =
    some [0x17_3837363534333231, 0x10_0000000000000039] := by decide

theorem test_asm_clear : assemble .clear = some [0x01_0000000000000000] ∧ assemble (.feed []) = some [] := by
  decide

/-! ### The commands (spec/95_test_vectors.md 2.2, 2.3) -/

theorem test_nop : exec (.nop 0xFFFF) (block .byte 0x12345678 []) = .next (block .byte 0x12345678 []) := by rfl
theorem test_seed : accOf (exec (.seed 0xDEADBEEFC1D04330) (block .byte 7 [])) = some 0xC1D04330 := by
  decide
theorem test_seed_keeps_err : errOf (exec (.seed 0xFFFFFFFF) (failed 7 [])) = some (true, 0x18) := by decide
theorem test_read : rspOf (exec (.read 0) (block .byte 0x353DD8BE [])) = some 0x353DD8BE := by decide
theorem test_status_reset : rspOf (exec (.status 0) (State.resetOf .byte)) = some 0x00000100 ∧
    rspOf (exec (.status 0) (State.resetOf .bitSerial)) = some 0x00000000 ∧
    rspOf (exec (.status 0) (State.resetOf .slice4)) = some 0x00000200 ∧
    rspOf (exec (.status 0) (State.resetOf .slice8)) = some 0x00000300 := by decide
theorem test_status_failed : rspOf (exec (.status 0) (failed 0xE2A22936 [])) = some 0x00180301 := by decide

theorem test_update1 : accOf (exec (.update1 ramp) (block .byte 0x12345678 [])) = some 0x5B45E8C6 := by
  decide
theorem test_update1_high_bit : accOf (exec (.update1 0x80) (block .byte 0 [])) = some 0xD08B6829 := by
  decide
set_option maxRecDepth 20000 in
theorem test_update2 : accOf (exec (.update2 ramp) (block .byte 0x12345678 [])) = some 0x5631A762 := by
  decide
set_option maxRecDepth 20000 in
theorem test_update2_resume : accOf (exec (.update2 0x0A6F) (block .byte 0xA099F534 [])) = some 0x353DD8BE := by
  decide
set_option maxRecDepth 20000 in
theorem test_update3 : accOf (exec (.update3 ramp) (block .byte 0x12345678 [])) = some 0xC1867297 := by
  decide
set_option maxRecDepth 20000 in
theorem test_update4 : accOf (exec (.update4 ramp) (block .byte 0x12345678 [])) = some 0xD344DAC0 := by
  decide
set_option maxRecDepth 20000 in
theorem test_update4_residue : accOf (exec (.update4 0xDEADBEEF) (block .byte 0xDEADBEEF [])) = some 0x48674BC7 := by
  decide
set_option maxRecDepth 20000 in
theorem test_update5 : accOf (exec (.update5 ramp) (block .byte 0x12345678 [])) = some 0xA4D22553 := by
  decide
set_option maxRecDepth 20000 in
theorem test_update6 : accOf (exec (.update6 ramp) (block .byte 0x12345678 [])) = some 0x360D4FBB := by
  decide
set_option maxRecDepth 20000 in
theorem test_update7 : accOf (exec (.update7 ramp) (block .byte 0x12345678 [])) = some 0xAD1DE307 := by
  decide
set_option maxRecDepth 20000 in
theorem test_update7_ignored : accOf (exec (.update7 0xFF00000000000000) (block .byte 0x12345678 [])) =
    some 0xAB19EDB6 := by decide
set_option maxRecDepth 20000 in
theorem test_update8 : accOf (exec (.update8 ramp) (block .byte 0x12345678 [])) = some 0x0CC37296 := by
  decide
set_option maxRecDepth 20000 in
theorem test_update8_ones : accOf (exec (.update8 0xFFFFFFFFFFFFFFFF) (block .byte 0 [])) = some 0x48674BC7 := by
  decide

/-! ### Reserved commands, responses, reset (spec/95_test_vectors.md 2.6, 2.7) -/

theorem test_reserved_first :
    errOf (step (block .slice8 0xE2A22936 [.command 0x18_0000000000000123])) = some (true, 0x18) := by decide
theorem test_reserved_second :
    errOf (step (failed 0xE2A22936 [.command 0x04_0000000000000000])) = some (true, 0x18) ∧
    accOf (step (failed 0xE2A22936 [.command 0x04_0000000000000000])) = some 0xE2A22936 := by decide
theorem test_reset_of_failed :
    step { failed 0xF077BA9A [.reset] with rsp := some 1 } = .next { State.resetOf .slice8 with draws := 1 } := by
  rfl
theorem test_command_waits_for_response :
    step { block .byte 0 [.command 0x00_0000000000000000] with rsp := some 1 } = .fault .stuck := by rfl
theorem test_end_of_run : step (State.resetOf .byte) = .fault .quiescent := by rfl
theorem test_never_reset :
    step { block .byte 0 [.take] with initialised := false } = .refused .neverReset := by rfl

/-- `withFetchWord` places a command where the very next step runs it, whatever stood in the way. -/
theorem test_withFetchWord (s : State) :
    step (s.withFetchWord 72 0x02_0000000000000000) =
      exec (.read 0) { s with rsp := none, busy := none, initialised := true, draws := s.draws + 1 } := by rfl

/-! ### Datapaths and tables (spec/95_test_vectors.md 2.5) -/

theorem test_bitSerial_trace :
    lfsrClock 0xFFFFFFFF true = 0x7FFFFFFF ∧ lfsrClock 0x7FFFFFFF false = 0xBD09C487 ∧
    lfsrLoop 0xFFFFFFFF (bitsOf 0x61) = 0x3E2FBCCF := by decide
theorem test_tableStep : tableStep 0xFFFFFFFF 0x61 = 0x3E2FBCCF := by decide
theorem test_slice4 : slice4Step 0xFFFFFFFF 0x6C6C6568 = 0x5F660ACB := by decide
theorem test_slice8 : slice8Step 0xFFFFFFFF 0x34333231 0x38373635 = 0x9F787F65 := by decide
theorem test_table_spots : table 1 0x01 = 0x13A29877 ∧ table 3 0xFF = 0x2803E842 ∧ table 7 0xFF = 0x1F1530A5 := by
  decide
theorem test_partial_group : datapathUpdate .slice8 0 (bytesOf ramp 7) = 0xBD3A64DC ∧
    datapathUpdate .slice4 0 (bytesOf ramp 6) = 0x4F4DFBAB ∧
    datapathUpdate .bitSerial 0 (bytesOf ramp 3) = 0xF130F21E := by decide

/-! ### The clock level (spec/95_test_vectors.md 2.9, a BYTE block) -/

/-- UPDATE4 of "hell" presented at an edge. -/
def hellIn : PortIn := presenting 0x13_000000006C6C6568 true

/-- READ presented at an edge. -/
def readIn : PortIn := presenting 0x02_0000000000000000 true

theorem test_edges_busy :
    (match clockRun [(false, hellIn), (false, readIn), (false, readIn)] (State.resetOf .byte) with
      | .next s => s.busy.isSome && s.acc == 0
      | .fault _ => false
      | .refused _ => false) = true := by decide
theorem test_edges_done :
    accOf (clockRun [(false, hellIn), (false, readIn), (false, readIn), (false, readIn)] (State.resetOf .byte)) =
      some 0xA099F534 := by decide
theorem test_edges_read :
    rspOf (clockRun [(false, hellIn), (false, readIn), (false, readIn), (false, readIn), (false, readIn)]
      (State.resetOf .byte)) = some 0xA099F534 := by decide

/-- A command presented before a reset edge and withdrawn at it is refused (20_memory.md R49); one kept across it
transfers at the first edge after it (70_reset_and_hazards.md R203, R206). -/
theorem test_reset_keeps_obligation :
    clockRun [(false, readIn), (false, { idleIn with rst := true })]
      { State.resetOf .byte with busy := some (.bytes 1 [2, 3, 4]) } = .refused .hostViolation ∧
    rspOf (clockRun [(false, readIn), (false, { readIn with rst := true }), (false, readIn)]
      { State.resetOf .byte with busy := some (.bytes 1 [2, 3, 4]) }) = some 0 := ⟨rfl, by decide⟩

/-! ### The host adapter (spec/95_test_vectors.md 2.8) -/

set_option maxRecDepth 20000 in
theorem test_adapter :
    ((newAdapter.write [0x68, 0x65, 0x6C]).write [0x6C, 0x6F, 0x0A]).finish = 0x353DD8BE353DD8BE ∧
    newAdapter.finish = 0 := by decide

/-! ### Witnesses: concrete states and operands that meet the hypotheses of the statements, clause by clause, at the
ends of the ranges -/

theorem witness_DecodeIsTheMap :
    (0x10#8).extractLsb' 3 5 = 0b00010#5 ∧ (0x17#8).extractLsb' 3 5 = 0b00010#5 ∧
    (∀ op ∈ [0x04#8, 0x0F#8, 0x18#8, 0xFF#8],
      op ≠ 0x00 ∧ op ≠ 0x01 ∧ op ≠ 0x02 ∧ op ≠ 0x03 ∧ op.extractLsb' 3 5 ≠ 0b00010#5) := by decide

theorem witness_DecodeEncode :
    (Instr.update8 ramp).WellFormed ∧ decode 0x01_DEADBEEFC1D04330 = .command (.seed 0xDEADBEEFC1D04330) :=
  ⟨trivial, by decide⟩

theorem witness_IgnoredBits :
    (∀ n ∈ [8, 16, 24, 32, 40, 48, 56],
      (0#64).setWidth n = (0xFF00000000000000#64).setWidth n ∧ (0#64) ≠ 0xFF00000000000000#64) ∧
    isReserved 0x04 = true ∧ isReserved 0xFF = true ∧
    (∃ ws, assemble (.upd 8 0xFFFFFFFFFFFFFFFF) = some ws ∧ ws ≠ []) ∧
    (∀ op data, (Asm.upd 8 0xFFFFFFFFFFFFFFFF) ≠ .cmd op data) :=
  ⟨by decide, by decide +kernel, by decide +kernel, ⟨_, rfl, by simp [Asm.words]⟩, fun _ _ h => by cases h⟩

theorem witness_ready : (block .byte 0 []).Ready ∧ (failed 0xE2A22936 []).Ready := by
  simp [State.Ready, block, failed, State.resetOf]

theorem witness_ReadMeaning :
    (block .byte 5 []).Ready ∧
    exec (.read 0) { block .byte 5 [] with pending := .command 0 :: [] } =
      .next { block .byte 5 [.command 0] with rsp := some 5 } :=
  ⟨witness_ready.1, rfl⟩

theorem witness_StatusMeaning :
    (block .slice8 7 []).initialised = true ∧ (block .slice8 7 []).ErrInv ∧ (block .slice8 7 []).err = false :=
  ⟨rfl, fun _ => ⟨fun _ => rfl, (fun h => by cases h)⟩, rfl⟩

theorem witness_UpdateMeaning : (1 ≤ 1 ∧ 1 ≤ 8) ∧ (1 ≤ 8 ∧ 8 ≤ 8) := by decide

theorem witness_Update1To4 :
    (∃ t u, exec (.update1 ramp) (block .byte 0 []) = .next t ∧
      exec (.update1 ((ramp.extractLsb' 8 8).setWidth 64)) t = .next u) ∧
    (0xDEADBEEF#64).extractLsb' 0 32 = (block .byte 0xDEADBEEF []).acc ∧ (block .byte 0 []).acc = 0 :=
  ⟨⟨_, _, rfl, rfl⟩, by decide, rfl⟩

theorem witness_Update5To8 : (block .byte 0 []).acc = 0 ∧ (block .bitSerial 0x12345678 []).acc = 0x12345678 :=
  ⟨rfl, rfl⟩

theorem witness_CommandFrame :
    onlyLooks (.nop 1) = true ∧ (∀ d, Instr.seed 1 ≠ .read d) ∧ (∀ d, Instr.seed 1 ≠ .status d) :=
  ⟨rfl, (fun _ h => by cases h), (fun _ h => by cases h)⟩

theorem witness_MixedWidths :
    updateOperand (.update8 ramp) = some (8, ramp) ∧ (block .byte 7 []).Ready ∧
    (∀ k, k < 8 → byteOf (0xFFFFFFFFFFFFFF00 ||| (byteOf ramp k).setWidth 64) 0 = byteOf ramp k) :=
  ⟨rfl, witness_ready.1, by decide⟩

theorem witness_AffineLaw :
    [0x61#8, 0x62, 0x63].length = [0x78#8, 0x79, 0x7A].length ∧ [0x78#8, 0x79, 0x7A].length = [0#8, 1, 2].length := by
  decide

theorem witness_FixedPoint : updateOperand (.update1 0) = some (1, 0) ∧ updateOperand (.update8 0) = some (8, 0) ∧
    (block .byte 0xFFFFFFFF []).acc = 0xFFFFFFFF := ⟨rfl, rfl, rfl⟩

theorem witness_SecondFixedPoint : (block .byte 0x035BD250 []).acc = 0x035BD250 := rfl

theorem witness_SingleByteSensitivity : (0x6F#8 : Byte) ≠ 0x4F#8 ∧ 0 < 8 ∧ 7 < 8 := by decide

theorem witness_BitSerialStep : 0 ≤ 8 ∧ 8 ≤ 8 := by decide

theorem witness_PrintedTables : 0 < 8 ∧ 7 < 8 := by decide

theorem witness_Conformance : (1 ≤ 1 ∧ 1 ≤ 8) ∧ (1 ≤ 8 ∧ 8 ≤ 8) := by decide

theorem witness_StepRunsDecoded :
    (block .byte 7 [.command 0x10_0000000000000061]).Ready ∧
    (block .byte 7 [.command 0x10_0000000000000061]).pending = .command 0x10_0000000000000061 :: [] ∧
    decode 0x10_0000000000000061 = .command (.update1 0x61) ∧ (Instr.update1 0x61).WellFormed :=
  ⟨⟨rfl, rfl, rfl⟩, rfl, by decide, trivial⟩

theorem witness_ReservedCommand :
    (failed 7 [.command (cmdWord 0x18 0x123)]).Ready ∧
    (failed 7 [.command (cmdWord 0x18 0x123)]).pending = .command (cmdWord 0x18 0x123) :: [] ∧
    (0x04 ≤ (0x0F#8).toNat ∧ (0x0F#8).toNat ≤ 0x0F) ∧ (0x18 ≤ (0x18#8).toNat ∧ (0x18#8).toNat ≤ 0xFF) :=
  ⟨⟨rfl, rfl, rfl⟩, rfl, by decide, by decide⟩

theorem witness_TakeResponse :
    (block .byte 7 [.take]).initialised = true ∧ (block .byte 7 [.take]).busy = none ∧
    (block .byte 7 [.take]).pending = .take :: [] ∧ (block .byte 7 [.take]).rsp = none ∧
    ({ block .byte 7 [.take] with rsp := some 9 } : State).rsp = some 9 := ⟨rfl, rfl, rfl, rfl, rfl⟩

theorem witness_ResetValues :
    ({ failed 7 [.reset] with busy := some (.bytes 1 [2]), rsp := some 3 } : State).pending = .reset :: [] := rfl

theorem witness_ResponseFirst :
    ∀ s ∈ [({ block .byte 7 [] with rsp := some 9 } : State), { block .byte 7 [.command 0] with rsp := some 9 },
        { block .byte 7 [.take] with rsp := some 9 }],
      s.initialised = true ∧ s.busy = none ∧ s.rsp = some 9 := by decide

theorem witness_QuiescentRun : (block .byte 7 []).initialised = true ∧ (block .byte 7 []).Quiescent :=
  ⟨rfl, rfl, rfl, rfl⟩

theorem witness_NeverReset :
    ({ block .byte 7 [.take] with initialised := false } : State).initialised = false ∧
    (∀ rest, ({ block .byte 7 [.take] with initialised := false } : State).pending ≠ .reset :: rest) ∧
    (∀ rest, ({ block .byte 7 [.take] with initialised := false } : State).pending ≠ .powerLoss :: rest) ∧
    (block .byte 7 [.powerLoss]).pending = .powerLoss :: [] :=
  ⟨rfl, (fun _ h => by cases h), (fun _ h => by cases h), rfl⟩

theorem witness_ErrorIsSticky :
    (∃ t, step (failed 7 [.command 0]) = .next t) ∧ (failed 7 [.command 0]).err = true ∧
    (∀ rest, (failed 7 [.command 0]).pending ≠ .reset :: rest) ∧
    (∀ rest, (failed 7 [.command 0]).pending ≠ .powerLoss :: rest) :=
  ⟨⟨_, rfl⟩, rfl, (fun _ h => by cases h), (fun _ h => by cases h)⟩

theorem witness_ErrorHasNoEffect :
    (∃ t, Runs 2 (block .byte 7 [.command 0x02_0000000000000000, .take]) t) ∧
    (∀ ev ∈ (block .byte 7 [.command 0x02_0000000000000000, .take]).pending.take 2, eventIsStatus ev = false) :=
  ⟨⟨_, rfl⟩, by decide⟩

theorem witness_DatapathHasNoEffect :
    (block .byte 7 [.command 0x03_0000000000000000, .take]).busy = none ∧
    (∃ t, Runs 2 (block .byte 7 [.command 0x03_0000000000000000, .take]) t) := ⟨rfl, ⟨_, rfl⟩⟩

theorem witness_SessionValue :
    (block .byte 7 [.command 0x10_0000000000000061, .command 0x02_0000000000000000, .take]).busy = none ∧
    (∃ t, Runs 3 (block .byte 7 [.command 0x10_0000000000000061, .command 0x02_0000000000000000, .take]) t) ∧
    (∀ ev ∈ (block .byte 7 [.command 0x10_0000000000000061, .command 0x02_0000000000000000,
      .take]).pending.take 3, eventRestarts ev = false) := ⟨rfl, ⟨_, rfl⟩, by decide⟩

theorem witness_SplitInvariance :
    (∀ c ∈ [[0x68#8], [1, 2, 3, 4, 5, 6, 7, 8]], 1 ≤ c.length ∧ c.length ≤ 8) ∧
    (block .byte 7 ([[0x68#8], [1, 2, 3, 4, 5, 6, 7, 8]].map
      (fun c => HostEvent.command (updWord c.length (packBytes c))))).Ready :=
  ⟨by decide, ⟨rfl, rfl, rfl⟩⟩

theorem witness_CrcEntryPoint : (block .byte 7 (crcMemEvents 5 [0x61])).Ready := ⟨rfl, rfl, rfl⟩

theorem witness_ReadIsIdempotent :
    (block .byte 7 (commandAndTake (.read 0) ++ [Instr.nop 1, .status 2, .read 3].flatMap commandAndTake ++
      commandAndTake (.read 4) ++ [])).Ready ∧
    (∀ i ∈ [Instr.nop 1, .status 2, .read 3], onlyLooks i = true) := ⟨⟨rfl, rfl, rfl⟩, by decide⟩

theorem witness_ResponsesInOrder : ∃ t, step { block .byte 7 [.take] with rsp := some 9 } = .next t := ⟨_, rfl⟩

theorem witness_OnlyTheseTouchAcc :
    (block .byte 7 [.command 0x01_0000000000000009]).busy = none ∧
    ∃ t, step (block .byte 7 [.command 0x01_0000000000000009]) = .next t ∧ t.acc ≠ 7 :=
  ⟨rfl, _, rfl, by decide⟩

theorem witness_ErrorRecordInvariant :
    (failed 7 [.command 0]).ErrInv ∧ ∃ t, step (failed 7 [.command 0]) = .next t ∧ t.initialised = true ∧ t.err = true :=
  ⟨fun _ => ⟨(fun h => by cases h), (fun _ => by decide)⟩, _, rfl, rfl, rfl⟩

theorem witness_PortInvariant :
    ({ block .byte 7 [.take] with busy := some (.bytes 1 [2, 3]) } : State).PortInv ∧
    (∃ t, step { block .byte 7 [.take] with busy := some (.bytes 1 [2, 3]) } = .next t) ∧
    (∃ t, clockEdge false idleIn { block .byte 7 [.take] with busy := some (.bytes 1 [2, 3]) } = .next t) :=
  ⟨fun _ _ => rfl, ⟨_, rfl⟩, ⟨_, rfl⟩⟩

theorem witness_NoBusyTransaction :
    (block .byte 7 [.command 0x17_3837363534333231]).busy = none ∧
    ∃ t, step (block .byte 7 [.command 0x17_3837363534333231]) = .next t ∧ t.initialised = true :=
  ⟨rfl, _, rfl, rfl⟩

theorem witness_ports : (∃ o, ports false (block .byte 7 []) = some o) ∧
    (∃ o, ports true { block .byte 7 [] with rsp := some 9 } = some o ∧ o.rspValid = false) ∧
    (∃ o, ports false { block .byte 7 [] with rsp := some 9 } = some o) := ⟨⟨_, rfl⟩, ⟨_, rfl, rfl⟩, ⟨_, rfl⟩⟩

/-- A block with RSP full, at which READ waits. -/
def waiting : State := { block .byte 7 [] with rsp := some 9, presented := some 0x02_0000000000000000 }

theorem witness_ResetWins :
    ({ readIn with rst := true } : PortIn).rst = true ∧
    (∀ w, waiting.presented = some w → ({ readIn with rst := true } : PortIn).cmdValid = true ∧
      ({ readIn with rst := true } : PortIn).word = w) ∧ waiting.rsp = some 9 ∧ readIn.rspReady = true :=
  ⟨rfl, (fun _ h => ⟨rfl, Option.some.inj h⟩), rfl, rfl⟩

theorem witness_HostViolationRefused :
    waiting.presented = some 0x02_0000000000000000 ∧ idleIn.cmdValid = false ∧
    hellIn.word ≠ 0x02_0000000000000000 := ⟨rfl, rfl, by decide⟩

theorem witness_EdgeCompletes :
    (block .byte 7 []).initialised = true ∧ (∀ w, (block .byte 7 []).presented = some w →
      hellIn.cmdValid = true ∧ hellIn.word = w) ∧ hellIn.cmdValid = true ∧ hellIn.rst = false ∧
    waiting.initialised = true ∧ (∀ w, waiting.presented = some w → readIn.cmdValid = true ∧ readIn.word = w) ∧
    waiting.rsp ≠ none ∧ idleIn.cmdValid = false :=
  ⟨rfl, (fun _ h => by cases h), rfl, rfl, rfl, (fun _ h => ⟨rfl, Option.some.inj h⟩), (fun h => by cases h), rfl⟩

theorem witness_CommandReady : ({ idleIn with rst := true } : PortIn).rst = true ∧
    ({ block .byte 7 [] with busy := some (.bytes 1 [2]) } : State).busy ≠ none ∧
    ({ block .byte 7 [] with rsp := some 9 } : State).rsp ≠ none :=
  ⟨rfl, (fun h => by cases h), (fun h => by cases h)⟩

theorem witness_EdgeRunsDecoded :
    (block .slice8 7 []).Ready ∧ hellIn.rst = false ∧ hellIn.cmdValid = true ∧
    (∀ w, (block .slice8 7 []).presented = some w → hellIn.word = w) ∧
    decode hellIn.word = .command (.update4 0x6C6C6568) ∧ (block .slice8 7 []).datapath = .slice8 ∧
    decode readIn.word = .command (.read 0) ∧ updateOperand (.read 0) = none :=
  ⟨⟨rfl, rfl, rfl⟩, rfl, rfl, (fun _ h => by cases h), by decide, rfl, by decide, rfl⟩

theorem witness_RunRefinesTransactions :
    (block .byte 7 []).PortInv ∧
    (∃ t, clockRun [(true, hellIn), (false, idleIn), (false, idleIn)] (block .byte 7 []) = .next t) :=
  ⟨fun _ _ => rfl, ⟨_, rfl⟩⟩

theorem witness_NominalTiming :
    (block .slice4 7 []).Ready ∧ (block .slice4 7 []).presented = none ∧
    updateOperand (.update7 ramp) = some (7, ramp) ∧
    ((block .slice4 7 []).datapath = .bitSerial → 3 + 1 = 8 * 7) ∧
    ((block .slice4 7 []).datapath = .byte → 3 + 1 = 7) ∧
    ((block .slice4 7 []).datapath = .slice4 → 3 + 1 = 7 / 4 + 7 % 4) ∧
    ((block .slice4 7 []).datapath = .slice8 → 3 + 1 = 1) ∧ 0 < 3 :=
  ⟨⟨rfl, rfl, rfl⟩, rfl, rfl, (fun h => by cases h), (fun h => by cases h), fun _ => rfl, (fun h => by cases h), by decide⟩

theorem witness_AdapterOnBlock :
    (block .byte 7 (newEvents ++ [[0x68#8, 0x65, 0x6C], []].flatMap writeEvents ++ finishEvents ++ [])).Ready ∧
    (block .byte 0 ([] ++ [[0x68#8, 0x65, 0x6C], []].flatMap writeEvents ++ finishEvents ++ [])).Ready ∧
    (block .byte 0 ([] ++ [[0x68#8, 0x65, 0x6C], []].flatMap writeEvents ++ finishEvents ++ [])).acc = 0 :=
  ⟨⟨rfl, rfl, rfl⟩, ⟨rfl, rfl, rfl⟩, rfl⟩

end Sys2Proof.Tests
end

/-! PROOFS. The clock level refines the transaction level, and the ground truth of the source (00_scope.md R10, R1):
first that one clock of any datapath keeps the value its UPDATE ends with, then each edge as its transaction. -/

namespace Sys2Proof.Machine

/-! ### The datapaths: one clock keeps the value the UPDATE ends with (43_datapath_variants.md) -/

/-- One clock of the polynomial datapath takes the low bit of what is still to be mixed in (R143, R144). -/
theorem shiftOnce_xor_eq_lfsrClock (c x : Word) :
    shiftOnce (c ^^^ x) = lfsrClock c (x.getLsbD 0) ^^^ x >>> 1 := by
  unfold shiftOnce lfsrClock
  rw [BitVec.getLsbD_xor, BitVec.ushiftRight_xor_distrib]
  split
  · ac_rfl
  · simp

theorem shiftTimes_succ (n : Nat) (c : Word) : shiftTimes (n + 1) c = shiftOnce (shiftTimes n c) := by
  induction n generalizing c with
  | zero => rfl
  | succ n ih => exact ih (shiftOnce c)

/-- R144's induction: after `j` shifts of `c ^ x` the low `j` bits of `x` are consumed and the others are still to be
mixed in. -/
theorem shiftTimes_xor_eq_lfsrLoop (c x : Word) (j : Nat) :
    shiftTimes j (c ^^^ x) = lfsrLoop c ((List.range j).map x.getLsbD) ^^^ x >>> j := by
  induction j with
  | zero => simp [shiftTimes]
  | succ j ih =>
    have hbit : (x >>> j).getLsbD 0 = x.getLsbD j := by simp
    rw [shiftTimes_succ, ih, shiftOnce_xor_eq_lfsrClock, hbit, ← BitVec.shiftRight_add, List.range_succ,
      List.map_append, lfsrLoop_append, List.map_singleton, lfsrLoop_cons, lfsrLoop_nil]

theorem setWidth_ushiftRight_byte (b : Byte) : b.setWidth 32 >>> 8 = 0 := by
  ext j hj; simp

/-- The eight clocks of a byte are the byte step (R144). -/
theorem lfsrLoop_bitsOf (c : Word) (b : Byte) : lfsrLoop c (bitsOf b) = step8 c b := by
  have hbits : bitsOf b = (List.range 8).map (b.setWidth 32).getLsbD :=
    List.map_congr_left fun j hj => by
      have := List.mem_range.mp hj
      simp; omega
  rw [step8, shiftTimes_xor_eq_lfsrLoop, setWidth_ushiftRight_byte, hbits]
  exact BitVec.xor_zero.symm

/-- The polynomial datapath over a byte sequence is the loop of R80. -/
theorem lfsrLoop_bitStream (c : Word) (s : List Byte) : lfsrLoop c (bitStream s) = crcLoop c s := by
  induction s generalizing c with
  | nil => rfl
  | cons b s ih =>
    rw [bitStream, List.flatMap_cons, lfsrLoop_append, lfsrLoop_bitsOf]
    exact ih _

theorem step8_zero (c : Word) : step8 c 0 = shiftTimes 8 c := by simp [step8]

/-- Eight shifts: the low byte through T0, the bits above it only moved down (R145). -/
theorem shiftTimes_eight (x : Word) : shiftTimes 8 x = x >>> 8 ^^^ table0 (x.setWidth 8) := by
  have hhigh : shiftTimes 8 (x ^^^ (x.setWidth 8).setWidth 32) = x >>> 8 := by
    rw [shiftTimes_of_low_zero, BitVec.ushiftRight_xor_distrib, setWidth_ushiftRight_byte]
    · simp
    · intro j hj; simp [hj]; omega
  calc shiftTimes 8 x = shiftTimes 8 (x ^^^ (x.setWidth 8).setWidth 32 ^^^ (x.setWidth 8).setWidth 32) := by simp
    _ = x >>> 8 ^^^ table0 (x.setWidth 8) := by rw [shiftTimes_xor, hhigh, table0, step8_zero]

/-- The table step is the byte step (R146). -/
theorem tableStep_eq_step8 (c : Word) (b : Byte) : tableStep c b = step8 c b := by
  rw [tableStep, step8, shiftTimes_eight, BitVec.ushiftRight_xor_distrib, setWidth_ushiftRight_byte]
  simp

/-- From one table to the next is the byte step over a zero byte (R147). -/
theorem tableNext_eq_step8 (t : Word) : tableNext t = step8 t 0 := by
  rw [← tableStep_eq_step8]; simp [tableNext, tableStep]

/-- An entry of table `k` is the entry of T0 run over `k` zero bytes (R147). -/
theorem table_eq_crcLoop (k : Nat) (i : Byte) : table k i = crcLoop (table0 i) (List.replicate k 0) := by
  induction k with
  | zero => rfl
  | succ k ih =>
    rw [table, ih, tableNext_eq_step8, List.replicate_succ', crcLoop_append, crcLoop_cons, crcLoop_nil]

/-- The narrower slice of any number of bytes is the loop of R80: by linearity the first byte's table entry runs over
the later bytes as over zero bytes (R150). -/
theorem narrowSlice_eq_crcLoop (c : Word) (s : List Byte) : narrowSlice c s = crcLoop c s := by
  induction s generalizing c with
  | nil => rfl
  | cons b s ih =>
    rw [narrowSlice, table_eq_crcLoop, ih, crcLoop_cons, ← tableStep_eq_step8, tableStep,
      crcLoop_xor_zeros, BitVec.xor_comm]

/-- Which byte a bit of the word of four bytes is in. -/
theorem getLsbD_wordOf (b0 b1 b2 b3 : Byte) (j : Nat) :
    (wordOf b0 b1 b2 b3).getLsbD j =
      if j < 8 then b0.getLsbD j else if j < 16 then b1.getLsbD (j - 8)
      else if j < 24 then b2.getLsbD (j - 16) else b3.getLsbD (j - 24) := by
  change (b3 ++ b2 ++ b1 ++ b0 : BitVec (8 + 8 + 8 + 8)).getLsbD j = _
  simp only [BitVec.getLsbD_append, Nat.sub_sub]
  split
  · rfl
  · congr 1
    · simp; omega
    · congr 1; simp; omega

/-- The bytes of the word of four bytes (R148). -/
theorem wordOf_bytes (b0 b1 b2 b3 : Byte) :
    (wordOf b0 b1 b2 b3).extractLsb' 0 8 = b0 ∧ (wordOf b0 b1 b2 b3).extractLsb' 8 8 = b1 ∧
    (wordOf b0 b1 b2 b3).extractLsb' 16 8 = b2 ∧ (wordOf b0 b1 b2 b3).extractLsb' 24 8 = b3 := by
  refine ⟨?_, ?_, ?_, ?_⟩ <;> ext j hj
  · simp [getLsbD_wordOf, hj]
  · simp [getLsbD_wordOf, hj, show 8 + j < 16 by omega]
  · simp [getLsbD_wordOf, hj, show ¬ 16 + j < 8 by omega, show 16 + j < 24 by omega]
  · simp [getLsbD_wordOf, hj, show ¬ 24 + j < 8 by omega, show ¬ 24 + j < 16 by omega]

/-- A byte of `c ^ w` is what the narrower slice looks up, once `c` has moved down to it (R148, R150). -/
theorem extractLsb'_xor_byte (c w : Word) (k : Nat) :
    (c ^^^ w).extractLsb' k 8 = (c >>> k ^^^ (w.extractLsb' k 8).setWidth 32).setWidth 8 := by
  ext j hj; simp

theorem ushiftRight_four_bytes (c : Word) : c >>> 8 >>> 8 >>> 8 >>> 8 = 0 := by
  simp only [← BitVec.shiftRight_add]
  exact BitVec.ushiftRight_eq_zero (by decide)

/-- The lookups of the four-byte step are those of the narrower slice of its four bytes (R148, R150). -/
theorem slice4Step_wordOf (c : Word) (b0 b1 b2 b3 : Byte) :
    slice4Step c (wordOf b0 b1 b2 b3) = narrowSlice c [b0, b1, b2, b3] := by
  obtain ⟨h0, h1, h2, h3⟩ := wordOf_bytes b0 b1 b2 b3
  simp only [slice4Step, extractLsb'_xor_byte, h0, h1, h2, h3, narrowSlice, ushiftRight_four_bytes]
  simp [← BitVec.shiftRight_add, BitVec.xor_assoc]

/-- The lookups of the eight-byte step are those of the narrower slice of its eight bytes (R149, R150). -/
theorem slice8Step_wordOf (c : Word) (b0 b1 b2 b3 b4 b5 b6 b7 : Byte) :
    slice8Step c (wordOf b0 b1 b2 b3) (wordOf b4 b5 b6 b7) = narrowSlice c [b0, b1, b2, b3, b4, b5, b6, b7] := by
  obtain ⟨h0, h1, h2, h3⟩ := wordOf_bytes b0 b1 b2 b3
  obtain ⟨h4, h5, h6, h7⟩ := wordOf_bytes b4 b5 b6 b7
  simp only [slice8Step, extractLsb'_xor_byte c, h0, h1, h2, h3, h4, h5, h6, h7, narrowSlice,
    ushiftRight_four_bytes]
  simp [← BitVec.shiftRight_add, BitVec.xor_assoc]

/-- A byte through the table (R146). -/
theorem busyFinal_byteClock (c : Word) (s : List Byte) : busyFinal (byteClock c s) = crcLoop c s := by
  cases s with
  | nil => rfl
  | cons b s => rw [byteClock, busyFinal, tableStep_eq_step8, crcLoop_cons]

/-- Four bytes at a time, and the last ones through the table (R148, R150). -/
theorem busyFinal_slice4Clock (c : Word) (s : List Byte) : busyFinal (slice4Clock c s) = crcLoop c s := by
  unfold slice4Clock
  split
  · rw [busyFinal, slice4Step_wordOf, narrowSlice_eq_crcLoop, ← crcLoop_append]; rfl
  · exact busyFinal_byteClock c s

/-- Eight bytes at a time, and the last ones through the narrower slice (R149, R150). -/
theorem busyFinal_slice8Clock (c : Word) (s : List Byte) : busyFinal (slice8Clock c s) = crcLoop c s := by
  unfold slice8Clock
  split
  · rw [busyFinal, slice8Step_wordOf, narrowSlice_eq_crcLoop, ← crcLoop_append]; rfl
  · exact narrowSlice_eq_crcLoop c s

/-- A clock of any datapath keeps the value that the UPDATE in progress ends with. -/
theorem busyFinal_datapathClock (dp : Datapath) (b : Busy) : busyFinal (datapathClock dp b) = busyFinal b := by
  cases b with
  | bits c todo => cases todo <;> rfl
  | bytes c todo =>
    cases dp with
    | bitSerial => exact busyFinal_byteClock c todo
    | byte => exact busyFinal_byteClock c todo
    | slice4 => exact busyFinal_slice4Clock c todo
    | slice8 => exact busyFinal_slice8Clock c todo

/-- An UPDATE ends with the loop of R80 over its bytes, on every datapath (R140, R142). -/
theorem busyFinal_busyStart (dp : Datapath) (acc : Word) (s : List Byte) :
    busyFinal (busyStart dp acc s) = crcLoop (acc ^^^ inversion) s := by
  cases dp with
  | bitSerial => exact lfsrLoop_bitStream _ s
  | byte => rfl
  | slice4 => rfl
  | slice8 => rfl

/-! ### What the transaction level sees of the clock level's operations (R10, R25) -/

/-- What an edge leaves of an UPDATE settles to the value the UPDATE ends with, finished or not. -/
theorem settle_holdBusy (b : Busy) (s : State) :
    (s.holdBusy b).settle = { s with acc := busyFinal b ^^^ inversion, busy := none } := by
  unfold State.holdBusy
  split
  · rw [busyFinal_of_done b ‹_›]; rfl
  · rfl

/-- An edge of an UPDATE, stalled or not, does not change what it settles to. -/
theorem settle_advance (stall : Bool) (b : Busy) (s : State) :
    (s.advance stall b).settle = { s with acc := busyFinal b ^^^ inversion, busy := none } := by
  cases stall with
  | true => rfl
  | false => exact (settle_holdBusy _ s).trans (by rw [busyFinal_datapathClock])

theorem transactionView_advance {s : State} {b : Busy} (h : s.busy = some b) (stall : Bool) :
    (s.advance stall b).transactionView = s.transactionView := by
  rw [State.transactionView, settle_advance, State.transactionView, State.settle_busy s b h]

/-- The state a block without BUSY shows the transaction level is its own, but for the host's side. -/
theorem transactionView_of_idle {s : State} (h : s.busy = none) :
    s.transactionView = { s with presented := none, pending := [], draws := 0 } := by
  rw [State.transactionView, State.settle_idle s h]

/-- The transaction level's state for a block at the clock level: its view, the events `evs` still to come, and `n`
draws made. -/
def State.atTransaction (evs : List HostEvent) (n : Nat) (s : State) : State :=
  { s.transactionView with pending := evs, draws := n }

theorem atTransaction_of_idle {s : State} (h : s.busy = none) (evs : List HostEvent) (n : Nat) :
    s.atTransaction evs n = { s with presented := none, pending := evs, draws := n } := by
  rw [State.atTransaction, transactionView_of_idle h]

theorem atTransaction_congr {s t : State} (h : s.transactionView = t.transactionView) (evs : List HostEvent)
    (n : Nat) : s.atTransaction evs n = t.atTransaction evs n := by
  rw [State.atTransaction, State.atTransaction, h]

theorem transactionView_busy (s : State) : s.transactionView.busy = none := by
  cases h : s.busy <;> simp [State.transactionView, h]

@[simp] theorem atTransaction_busy (evs : List HostEvent) (n : Nat) (s : State) :
    (s.atTransaction evs n).busy = none := transactionView_busy s

@[simp] theorem atTransaction_initialised (evs : List HostEvent) (n : Nat) (s : State) :
    (s.atTransaction evs n).initialised = s.initialised := by
  cases h : s.busy <;> simp [State.atTransaction, State.transactionView, h]

@[simp] theorem atTransaction_rsp (evs : List HostEvent) (n : Nat) (s : State) :
    (s.atTransaction evs n).rsp = s.rsp := by
  cases h : s.busy <;> simp [State.atTransaction, State.transactionView, h]

/-- The view of a view is itself, whatever events and draws stand beside it. -/
@[simp] theorem transactionView_atTransaction (evs : List HostEvent) (n : Nat) (s : State) :
    (s.atTransaction evs n).transactionView = s.transactionView := by
  rw [transactionView_of_idle (atTransaction_busy evs n s)]
  rfl

theorem transactionView_tick (s : State) : s.tick.transactionView = s.transactionView := by
  cases h : s.busy <;> simp [State.transactionView, h, State.tick]

theorem transactionView_present (w : Option CmdWord) (s : State) :
    (s.present w).transactionView = s.transactionView := by
  cases h : s.busy <;> simp [State.transactionView, h, State.present]

/-! ### One edge and its transaction -/

/-- A step on a reset event resets the block, whatever it is doing (R202). -/
theorem step_reset {s : State} {rest : List HostEvent} (hp : s.pending = .reset :: rest) :
    step s = .next (s.consume rest).resetBlock := by
  simp [step, transact, hp, serveEvent]

/-- A step on a take event takes the response, once no UPDATE is in progress. -/
theorem step_take {s : State} {rest : List HostEvent} (hp : s.pending = .take :: rest) (hi : s.initialised = true)
    (hb : s.busy = none) : step s = .next (s.consume rest).takeResponse := by
  simp [step, transact, hp, serveEvent, hi, hb]

/-- A step on a command event accepts the command, if the block is ready for it. -/
theorem step_command {s : State} {w : CmdWord} {rest : List HostEvent} (hp : s.pending = .command w :: rest)
    (hs : s.Ready) : step s = acceptCommand w (s.consume rest) := by
  obtain ⟨hi, hb, hr⟩ := hs
  simp [step, transact, hp, serveEvent, hi, hb, hr]

/-- An UPDATE command feeds its bytes (R120). -/
theorem exec_update {i : Instr} {len : Nat} {data : Data} (h : updateOperand i = some (len, data)) (s : State) :
    exec i s = .next (s.feed len data) := by
  cases i <;> cases h <;> rfl

/-- Performing a command neither looks at the host's side of the block nor changes it. -/
theorem acceptCommand_host {w : CmdWord} {s t : State} (h : acceptCommand w s = .next t) (p : Option CmdWord)
    (evs : List HostEvent) (n : Nat) :
    acceptCommand w { s with presented := p, pending := evs, draws := n } =
      .next { t with presented := p, pending := evs, draws := n } := by
  unfold acceptCommand at h ⊢
  split at h
  · rename_i i _
    cases i <;> cases h <;> rfl
  · cases h; rfl

/-- Performing a command begins no BUSY (R43). -/
theorem acceptCommand_busy {w : CmdWord} {s t : State} (h : acceptCommand w s = .next t) : t.busy = s.busy := by
  obtain ⟨i, -, hx⟩ | ⟨op, -, rfl⟩ := acceptCommand_cases h
  · obtain ⟨v, rfl⟩ | ⟨v, rfl⟩ := exec_cases hx <;> rfl
  · rfl

/-- The edge that accepts a command leaves what performing it whole leaves, an UPDATE counted as performed (R43). -/
theorem acceptCommand_of_acceptEdge {stall : Bool} {w : CmdWord} {s t : State} (hb : s.busy = none)
    (h : acceptEdge stall w s = .next t) :
    ∃ u, acceptCommand w s = .next u ∧ u.transactionView = t.transactionView := by
  obtain ⟨i, len, data, hd, hu, rfl⟩ | ⟨i, hd, -, hx⟩ | ⟨op, hd, rfl⟩ := acceptEdge_cases h
  · refine ⟨s.feed len data, by simp [acceptCommand, hd, exec_update hu], ?_⟩
    have hfeed : (s.feed len data).settle =
        (s.advance stall (busyStart s.datapath s.acc (bytesOf data len))).settle := by
      rw [settle_advance, busyFinal_busyStart, State.settle_idle _ (by exact hb), ← hb]
      rfl
    rw [State.transactionView, hfeed, State.transactionView]
  · exact ⟨t, by simp [acceptCommand, hd, hx], rfl⟩
  · exact ⟨_, by simp [acceptCommand, hd], rfl⟩

/-- At a reset edge the transaction level resets too. -/
theorem step_atTransaction_reset (p : PortIn) (s : State) (rest : List HostEvent) (n : Nat) :
    step (s.atTransaction (.reset :: rest) n) = .next ((resetEdge p s.tick).atTransaction rest (n + 1)) := by
  rw [step_reset (s := s.atTransaction _ n) rfl, atTransaction_of_idle (s := resetEdge p s.tick) rfl]
  cases h : s.busy <;> simp [State.atTransaction, State.transactionView, h] <;> rfl

/-- At an edge that takes a response, with no UPDATE in progress, the transaction level takes it too. -/
theorem step_atTransaction_take {s : State} (hi : s.initialised = true) (hb : s.busy = none) (rest : List HostEvent)
    (n : Nat) : step (s.atTransaction (.take :: rest) n) = .next (s.takeResponse.atTransaction rest (n + 1)) := by
  rw [step_take (s := s.atTransaction _ n) rfl (by simpa using hi) (by simp), atTransaction_of_idle hb,
    atTransaction_of_idle (s.takeResponse_busy.trans hb)]
  cases h : s.rsp <;> simp [State.takeResponse, State.consume, State.tick, h]

/-- At an edge that accepts a command the transaction level performs it. -/
theorem step_atTransaction_command {stall : Bool} {w : CmdWord} {s t : State} (hs : s.Ready)
    (h : acceptEdge stall w s = .next t) (rest : List HostEvent) (n : Nat) :
    step (s.atTransaction (.command w :: rest) n) = .next (t.atTransaction rest (n + 1)) := by
  obtain ⟨hi, hb, hr⟩ := hs
  obtain ⟨u, hu, huv⟩ := acceptCommand_of_acceptEdge hb h
  have hready : (s.atTransaction (.command w :: rest) n).Ready := by simp [State.Ready, hi, hr]
  rw [step_command rfl hready, ← atTransaction_congr huv, atTransaction_of_idle hb,
    atTransaction_of_idle ((acceptCommand_busy hu).trans hb)]
  exact acceptCommand_host hu none rest (n + 1)

@[simp] theorem responseTransfers_tick (p : PortIn) (s : State) :
    responseTransfers p s.tick = responseTransfers p s := rfl

/-- While no UPDATE is in progress an edge that accepts no command takes the response, if it does, and no more. -/
theorem waitEdge_of_idle {s : State} (hb : s.busy = none) (stall : Bool) (p : PortIn) :
    waitEdge stall p s = (if responseTransfers p s then s.takeResponse else s).present p.offered := by
  unfold waitEdge
  split <;> simp [hb]

/-- While an UPDATE is in progress, with no response pending, an edge only moves the UPDATE on. -/
theorem waitEdge_of_busy {s : State} {b : Busy} (hb : s.busy = some b) (hr : s.rsp = none) (stall : Bool)
    (p : PortIn) : waitEdge stall p s = (s.advance stall b).present p.offered := by
  simp [waitEdge, responseTransfers, rspValid, hb, hr]

/-! ### The refinement (R10, R210) -/

/-- Every edge keeps the port invariant: an UPDATE begins only with RSP empty, and RSP is filled only by a command
that leaves BUSY clear. -/
theorem clockEdge_portInv {stall : Bool} {p : PortIn} {s t : State} (hinv : s.PortInv)
    (h : clockEdge stall p s = .next t) : t.PortInv := by
  obtain ⟨-, -, rfl⟩ | ⟨-, -, -, hc, ha⟩ | ⟨-, hi, -, -, rfl⟩ := clockEdge_cases h
  · exact fun _ _ => rfl
  · obtain ⟨-, -, hb, hr⟩ := (commandTransfers_iff p s).mp hc
    obtain ⟨i, len, data, -, -, rfl⟩ | ⟨i, -, -, hx⟩ | ⟨op, -, rfl⟩ := acceptEdge_cases ha
    · intro _ _; simpa using hr
    · obtain ⟨v, rfl⟩ | ⟨v, rfl⟩ := exec_cases hx <;> simp [State.PortInv, hb]
    · simp [State.PortInv, hb]
  · cases hb : s.busy with
    | none =>
      rw [waitEdge_of_idle (s := s.tick) hb]
      split <;> simp [State.PortInv, hb]
    | some b =>
      have hr : s.rsp = none := hinv hi (by simp [hb])
      rw [waitEdge_of_busy (s := s.tick) hb hr]
      intro _ _; simpa using hr

/-- A run of `m` steps and then of `n` more. -/
theorem Runs.append {m n : Nat} {s t u : State} (hm : Runs m s t) (hn : Runs n t u) : Runs (m + n) s u := by
  induction m generalizing s with
  | zero => rw [(runs_zero s t).mp hm, Nat.zero_add]; exact hn
  | succ m ih =>
    obtain ⟨v, hv, hvt⟩ := (runs_succ m s t).mp hm
    rw [Nat.succ_add]
    exact (runs_succ (m + n) s u).mpr ⟨v, hv, ih hvt⟩

/-- A run of one step. -/
theorem Runs.of_step {s t : State} (h : step s = .next t) : Runs 1 s t :=
  (runs_succ 0 s t).mpr ⟨t, h, (runs_zero t t).mpr rfl⟩

/-- An edge that accepts no command is the taking of a response, or no step where none is taken: an UPDATE that moves
on is already performed at the transaction level. -/
theorem waitEdge_refines {p : PortIn} {s : State} (hinv : s.PortInv) (hrst : p.rst = false)
    (hi : s.initialised = true) (hc : commandTransfers p s = false) (stall : Bool) (rest : List HostEvent) (n : Nat) :
    Runs (edgeEvent p s).toList.length (s.atTransaction ((edgeEvent p s).toList ++ rest) n)
      ((waitEdge stall p s.tick).atTransaction rest (n + (edgeEvent p s).toList.length)) := by
  cases hb : s.busy with
  | none =>
    rw [waitEdge_of_idle (s := s.tick) hb, atTransaction_congr (transactionView_present ..), responseTransfers_tick]
    cases htake : responseTransfers p s with
    | false =>
      rw [show edgeEvent p s = none by simp [edgeEvent, hrst, hc, htake], if_neg (by simp),
        atTransaction_congr (transactionView_tick s)]
      exact (runs_zero _ _).mpr rfl
    | true =>
      rw [show edgeEvent p s = some .take by simp [edgeEvent, hrst, hc, htake], if_pos rfl,
        ← atTransaction_congr (transactionView_tick s)]
      exact .of_step (step_atTransaction_take (s := s.tick) hi hb rest n)
  | some b =>
    have hr : s.rsp = none := hinv hi (by simp [hb])
    rw [waitEdge_of_busy (s := s.tick) hb hr, atTransaction_congr (transactionView_present ..),
      show edgeEvent p s = none by simp [edgeEvent, hrst, hc, responseTransfers, rspValid, hr],
      atTransaction_congr (transactionView_advance (s := s.tick) hb stall),
      atTransaction_congr (transactionView_tick s)]
    exact (runs_zero _ _).mpr rfl

/-- One edge is the transaction that happens at it, or no step where none happens. -/
theorem clockEdge_refines {stall : Bool} {p : PortIn} {s t : State} (hinv : s.PortInv)
    (h : clockEdge stall p s = .next t) (rest : List HostEvent) (n : Nat) :
    Runs (edgeEvent p s).toList.length (s.atTransaction ((edgeEvent p s).toList ++ rest) n)
      (t.atTransaction rest (n + (edgeEvent p s).toList.length)) := by
  obtain ⟨hrst, -, rfl⟩ | ⟨hrst, hi, -, hc, ha⟩ | ⟨hrst, hi, -, hc, rfl⟩ := clockEdge_cases h
  · rw [show edgeEvent p s = some .reset by simp [edgeEvent, hrst]]
    exact .of_step (step_atTransaction_reset p s rest n)
  · obtain ⟨-, -, hb, hr⟩ := (commandTransfers_iff p s).mp hc
    rw [show edgeEvent p s = some (.command p.word) by simp [edgeEvent, hrst, hc]]
    have hview : (s.tick.present none).transactionView = s.transactionView := by
      rw [transactionView_present, transactionView_tick]
    rw [← atTransaction_congr hview]
    exact .of_step (step_atTransaction_command (s := s.tick.present none) ⟨hi, hb, hr⟩ ha rest n)
  · exact waitEdge_refines hinv hrst hi hc stall rest n

theorem clockRun_cons {stall : Bool} {p : PortIn} {edges : List (Bool × PortIn)} {s t : State} :
    clockRun ((stall, p) :: edges) s = .next t ↔
      ∃ v, clockEdge stall p s = .next v ∧ clockRun edges v = .next t := by
  rw [clockRun]
  cases clockEdge stall p s <;> simp

theorem clockEvents_cons {stall : Bool} {p : PortIn} {s v : State} (h : clockEdge stall p s = .next v)
    (edges : List (Bool × PortIn)) :
    clockEvents ((stall, p) :: edges) s = (edgeEvent p s).toList ++ clockEvents edges v := by
  rw [clockEvents, h]

/-- A run of edges is the run of its transactions, one step each: the statement the induction over the edges carries,
with the block at the clock level seen as the transaction level sees it. -/
theorem clockRun_refines (edges : List (Bool × PortIn)) {s t : State} (hinv : s.PortInv)
    (h : clockRun edges s = .next t) (n : Nat) :
    Runs (clockEvents edges s).length (s.atTransaction (clockEvents edges s) n)
      (t.atTransaction [] (n + (clockEvents edges s).length)) := by
  induction edges generalizing s n with
  | nil => cases h; exact (runs_zero _ _).mpr rfl
  | cons e edges ih =>
    obtain ⟨v, hv, hrun⟩ := clockRun_cons.mp h
    rw [clockEvents_cons hv, List.length_append, ← Nat.add_assoc]
    exact (clockEdge_refines hinv hv _ n).append (ih (clockEdge_portInv hinv hv) hrun _)

/-- Settles O57: induction over the edges, each of which is the transaction that happens at it. -/
theorem runRefinesTransactions : Obligations.RunRefinesTransactions := by
  unfold Obligations.RunRefinesTransactions
  intro edges s t hinv h
  exact ⟨_, clockRun_refines edges hinv h 0, transactionView_atTransaction _ _ t⟩

/-! ### The ground truth of the source (R1, R91, R141) -/

set_option maxRecDepth 20000 in
/-- Settles O22: closed values, R80 and R81 evaluated. -/
theorem groundTruth : Obligations.GroundTruth := by
  unfold Obligations.GroundTruth
  exact ⟨by decide, by decide, by decide, by decide⟩

end Sys2Proof.Machine

/-! PROOFS. The state of the block along a step (10_state.md): the error record, RSP and BUSY, the responses, ACC. Each
statement comes from what a step can do to that part of the state, said once. -/

namespace Sys2Proof.Machine

/-! ### The decoder, read backwards (30_encoding.md R61 to R63) -/

/-- The UPDATE that `len_m1` selects feeds `len_m1` + 1 bytes (R61). -/
theorem updateOperand_updateOfLenM1 (k : BitVec 3) (data : Data) :
    updateOperand (updateOfLenM1 k data) = some (k.toNat + 1, data) := by
  have hlt : k.toNat < 8 := k.isLt
  unfold updateOfLenM1
  generalize k.toNat = n at hlt
  interval_cases n <;> rfl

/-- A word that decodes to a control command has that command's opcode (R62, R63). -/
theorem opField_of_decode_control {w : CmdWord} {i : Instr} (h : decode w = .command i)
    (hu : updateOperand i = none) : opField w = opcodeOf i := by
  unfold decode decodeFields at h
  split_ifs at h with h0 h1 h2 h3 hgrp <;> cases h
  · exact h0
  · exact h1
  · exact h2
  · exact h3
  · rw [updateOperand_updateOfLenM1] at hu; cases hu

/-- An opcode that selects no command is one of those R66 lists: `op` is 8 * `grp` + `len_m1`. -/
theorem isReserved_of_decode {w : CmdWord} {op : Opcode} (h : decode w = .reserved op) : isReserved op = true := by
  unfold decode decodeFields at h
  split_ifs at h with h0 h1 h2 h3 hgrp
  cases h
  generalize opField w = op at *
  have hgrp' : (grpField op).toNat ≠ 2 := fun he => hgrp (BitVec.eq_of_toNat_eq he)
  have hlt := op.isLt
  simp only [grpField, BitVec.extractLsb'_toNat, Nat.shiftRight_eq_div_pow] at hgrp'
  simp only [isReserved, Bool.or_eq_true, Bool.and_eq_true, decide_eq_true_eq]
  bv_omega

/-! ### What a step can do to the parts of the state -/

/-- An accepted command word writes ACC, fills RSP or raises ReservedCommand, and does nothing else (R43, R181). -/
theorem acceptCommand_effect {w : CmdWord} {s t : State} (h : acceptCommand w s = .next t) :
    (∃ v, t = s.setAcc v) ∨ (∃ v, t = s.respond v) ∨
    (∃ op, isReserved op = true ∧ t = s.raiseReservedCommand op) := by
  obtain ⟨i, -, hx⟩ | ⟨op, hd, rfl⟩ := acceptCommand_cases h
  · exact (exec_cases hx).imp_right .inl
  · exact .inr (.inr ⟨op, isReserved_of_decode hd, rfl⟩)

/-- What a step can do to the error record: a reset empties it, a loss of power leaves it unknown, a reserved command
captures its opcode, and everything else keeps it (10_state.md R22, R23). -/
theorem step_errorRecord {s t : State} (h : step s = .next t) :
    (∃ rest, s.pending = .reset :: rest ∧ t.err = false ∧ t.errop = 0x00) ∨
    (∃ rest, s.pending = .powerLoss :: rest ∧ t.initialised = false) ∨
    (s.initialised = true ∧ t.err = s.err ∧ t.errop = s.errop) ∨
    (∃ op, isReserved op = true ∧ s.initialised = true ∧ t.err = true ∧ t.errop = captureOp s.err s.errop op) := by
  obtain ⟨rest, hp, rfl⟩ | ⟨rest, hp, rfl⟩ | ⟨b, hi, -, rfl⟩ | ⟨rest, -, hi, -, rfl⟩ | ⟨w, rest, -, hi, -, -, ha⟩ :=
    step_cases h
  · exact .inl ⟨rest, hp, rfl, rfl⟩
  · exact .inr (.inl ⟨rest, hp, rfl⟩)
  · exact .inr (.inr (.inl ⟨hi, by simp⟩))
  · exact .inr (.inr (.inl ⟨hi, by simp⟩))
  · obtain ⟨v, rfl⟩ | ⟨v, rfl⟩ | ⟨op, hop, rfl⟩ := acceptCommand_effect ha
    · exact .inr (.inr (.inl ⟨hi, rfl, rfl⟩))
    · exact .inr (.inr (.inl ⟨hi, rfl, rfl⟩))
    · exact .inr (.inr (.inr ⟨op, hop, hi, rfl, rfl⟩))

/-! ### ERR and ERROP (R22, R23) -/

theorem ne_zero_of_isReserved {op : Opcode} (h : isReserved op = true) : op ≠ 0x00 := by
  rintro rfl
  cases h

/-- The opcode captured is a reserved one: the new one, or the one an earlier reserved command left. -/
theorem isReserved_captureOp {err : Bool} {errop op : Opcode} (hold : err = true → isReserved errop = true)
    (hop : isReserved op = true) : isReserved (captureOp err errop op) = true := by
  cases err with
  | false => exact hop
  | true => exact hold rfl

/-- Every step keeps the error record well formed (R23, R106). -/
theorem step_errInv {s t : State} (hinv : s.ErrInv) (h : step s = .next t) : t.ErrInv := by
  intro ht
  obtain ⟨rest, -, herr, herrop⟩ | ⟨rest, -, hoff⟩ | ⟨hi, herr, herrop⟩ | ⟨op, hop, hi, herr, herrop⟩ :=
    step_errorRecord h
  · simp [herr, herrop]
  · simp [hoff] at ht
  · rw [herr, herrop]; exact hinv hi
  · rw [herr, herrop]
    exact ⟨(nomatch ·), fun _ => isReserved_captureOp (hinv hi).2 hop⟩

/-- Settles O47: the invariant is kept by each of the four things a step can do to the record, and no reserved opcode
is 0x00. -/
theorem errorRecordInvariant : Obligations.ErrorRecordInvariant := by
  unfold Obligations.ErrorRecordInvariant
  intro s t hinv h
  have ht := step_errInv hinv h
  exact ⟨ht, fun hi herr => ne_zero_of_isReserved ((ht hi).2 herr)⟩

/-- Settles O38: with ERR = 1 a reserved command captures nothing, and only reset and loss of power write the record
otherwise. -/
theorem errorIsSticky : Obligations.ErrorIsSticky := by
  unfold Obligations.ErrorIsSticky
  intro s t h hs hreset hloss
  obtain ⟨rest, hp, -⟩ | ⟨rest, hp, -⟩ | ⟨-, herr, herrop⟩ | ⟨op, -, -, herr, herrop⟩ := step_errorRecord h
  · exact absurd hp (hreset rest)
  · exact absurd hp (hloss rest)
  · exact ⟨herr.trans hs, herrop⟩
  · exact ⟨herr, by rw [herrop, hs]; rfl⟩

/-! ### Another error record changes nothing (R22, R183) -/

/-- The state with another error record. -/
def State.withRecord (e : Bool) (op : Opcode) (s : State) : State := { s with err := e, errop := op }

theorem takeResponse_withRecord (e : Bool) (op : Opcode) (s : State) :
    (s.withRecord e op).takeResponse = s.takeResponse.withRecord e op := by
  cases h : s.rsp <;> simp [State.takeResponse, State.withRecord, h]

theorem advance_withRecord (e : Bool) (op : Opcode) (stall : Bool) (b : Busy) (s : State) :
    (s.withRecord e op).advance stall b = (s.advance stall b).withRecord e op := by
  cases stall with
  | true => rfl
  | false =>
    change (s.withRecord e op).holdBusy (datapathClock s.datapath b) = _
    cases h : busyDone (datapathClock s.datapath b) <;> simp [State.advance, State.holdBusy, State.withRecord, h]

/-- Every command but STATUS does the same whatever the error record is. -/
theorem exec_withRecord {i : Instr} {s t : State} (h : exec i s = .next t) (hi : ∀ d, i ≠ .status d) (e : Bool)
    (op : Opcode) : exec i (s.withRecord e op) = .next (t.withRecord e op) := by
  cases i
  case status d => exact absurd rfl (hi d)
  all_goals cases h; rfl

/-- An accepted command word, unless it is STATUS, does the same but for the record it leaves. -/
theorem acceptCommand_withRecord {w : CmdWord} {s t : State} (h : acceptCommand w s = .next t)
    (hw : eventIsStatus (.command w) = false) (e : Bool) (op : Opcode) :
    ∃ e' op', acceptCommand w (s.withRecord e op) = .next (t.withRecord e' op') := by
  obtain ⟨i, hd, hx⟩ | ⟨op', hd, rfl⟩ := acceptCommand_cases h
  · have hi : ∀ d, i ≠ .status d := by
      rintro d rfl
      simp [eventIsStatus, opField_of_decode_control hd rfl, opcodeOf] at hw
    exact ⟨e, op, by simp only [acceptCommand, hd, exec_withRecord hx hi]⟩
  · exact ⟨true, captureOp e op op', by simp only [acceptCommand, hd]; rfl⟩

/-- A step on a loss of power, whatever the block is doing (60_exceptions.md R194). -/
theorem step_powerLoss {s : State} {rest : List HostEvent} (hp : s.pending = .powerLoss :: rest) :
    step s = .next (s.consume rest).losePower := by
  simp [step, transact, hp, serveEvent]

/-- While an UPDATE is in progress every event but reset and loss of power waits for it (R202). -/
theorem step_busy {s : State} {b : Busy} (hi : s.initialised = true) (hb : s.busy = some b)
    (hreset : ∀ rest, s.pending ≠ .reset :: rest) (hloss : ∀ rest, s.pending ≠ .powerLoss :: rest) :
    step s = .next (s.tick.advance false b) := by
  unfold step transact
  split
  · simp [serveNothing, hi, hb]
  · rename_i e rest hp
    cases e with
    | reset => exact absurd hp (hreset rest)
    | powerLoss => exact absurd hp (hloss rest)
    | take => simp [serveEvent, hi, hb]
    | command w => simp [serveEvent, hi, hb]

/-- A step that does not perform STATUS does the same from a state with another error record, but for the record it
leaves. -/
theorem step_withRecord {s t : State} (h : step s = .next t) (hst : ∀ ev ∈ s.pending.take 1, eventIsStatus ev = false)
    (e : Bool) (op : Opcode) : ∃ e' op', step (s.withRecord e op) = .next (t.withRecord e' op') := by
  by_cases hreset : ∃ rest, s.pending = .reset :: rest
  · obtain ⟨rest, hp⟩ := hreset
    cases (step_reset hp).symm.trans h
    exact ⟨false, 0x00, step_reset (s := s.withRecord e op) hp⟩
  by_cases hloss : ∃ rest, s.pending = .powerLoss :: rest
  · obtain ⟨rest, hp⟩ := hloss
    cases (step_powerLoss hp).symm.trans h
    exact ⟨_, _, step_powerLoss (s := s.withRecord e op) hp⟩
  obtain ⟨rest, hp, -⟩ | ⟨rest, hp, -⟩ | ⟨b, hi, hb, rfl⟩ | ⟨rest, hp, hi, hb, rfl⟩ |
    ⟨w, rest, hp, hi, hb, hr, ha⟩ := step_cases h
  · exact absurd ⟨rest, hp⟩ hreset
  · exact absurd ⟨rest, hp⟩ hloss
  · refine ⟨e, op, ?_⟩
    rw [step_busy (s := s.withRecord e op) hi hb (not_exists.mp hreset) (not_exists.mp hloss), ← advance_withRecord]
    rfl
  · refine ⟨e, op, ?_⟩
    rw [step_take (s := s.withRecord e op) hp hi hb, ← takeResponse_withRecord]
    rfl
  · obtain ⟨e', op', hx⟩ := acceptCommand_withRecord ha (hst _ (by simp [hp])) e op
    exact ⟨e', op', (step_command (s := s.withRecord e op) hp ⟨hi, hb, hr⟩).trans hx⟩

/-- A step leaves the host's list as it is, or takes the first event off it. -/
theorem step_pending {s t : State} (h : step s = .next t) : t.pending = s.pending ∨ t.pending = s.pending.tail := by
  obtain ⟨rest, hp, rfl⟩ | ⟨rest, hp, rfl⟩ | ⟨b, -, -, rfl⟩ | ⟨rest, hp, -, -, rfl⟩ | ⟨w, rest, hp, -, -, -, ha⟩ :=
    step_cases h
  · simp [hp]
  · simp [hp]
  · simp
  · simp [hp]
  · obtain ⟨v, rfl⟩ | ⟨v, rfl⟩ | ⟨op, -, rfl⟩ := acceptCommand_effect ha <;> simp [hp]

/-- The events that `n` steps more can reach are among those that `n + 1` steps could reach before the first. -/
theorem step_take_pending_subset {s t : State} (h : step s = .next t) (n : Nat) :
    t.pending.take n ⊆ s.pending.take (n + 1) := by
  obtain hp | hp := step_pending h
  · rw [hp]; exact List.take_subset_take_left _ (Nat.le_succ n)
  · rw [hp]
    cases s.pending with
    | nil => simp
    | cons e rest => simp

/-- A run without STATUS goes the same way from a state with another error record: the statement the induction on the
number of steps carries. -/
theorem runs_withRecord {n : Nat} {s t : State} (h : Runs n s t)
    (hst : ∀ ev ∈ s.pending.take n, eventIsStatus ev = false) (e : Bool) (op : Opcode) :
    ∃ e' op', Runs n (s.withRecord e op) (t.withRecord e' op') := by
  induction n generalizing s e op with
  | zero => cases (runs_zero s t).mp h; exact ⟨e, op, (runs_zero _ _).mpr rfl⟩
  | succ n ih =>
    obtain ⟨u, hu, hut⟩ := (runs_succ n s t).mp h
    obtain ⟨e₁, op₁, hstep⟩ :=
      step_withRecord hu (fun ev hev => hst ev (List.take_subset_take_left _ (by omega) hev)) e op
    obtain ⟨e', op', hrun⟩ := ih hut (fun ev hev => hst ev (step_take_pending_subset hu n hev)) e₁ op₁
    exact ⟨e', op', (runs_succ n _ _).mpr ⟨_, hstep, hrun⟩⟩

/-- Settles O39: the two runs take the same steps, and their states differ in the record alone. -/
theorem errorHasNoEffect : Obligations.ErrorHasNoEffect := by
  unfold Obligations.ErrorHasNoEffect
  intro n s t e op h hst
  obtain ⟨e', op', hrun⟩ := runs_withRecord h hst e op
  exact ⟨t.withRecord e' op', hrun, rfl⟩

/-! ### RSP and BUSY (R24, R25) -/

/-- Every step keeps RSP and BUSY apart: BUSY is only carried on, with RSP as it was, and a command is accepted only
with BUSY clear. -/
theorem step_portInv {s t : State} (hinv : s.PortInv) (h : step s = .next t) : t.PortInv := by
  intro ht hbt
  obtain ⟨rest, -, rfl⟩ | ⟨rest, -, rfl⟩ | ⟨b, hi, hb, rfl⟩ | ⟨rest, -, -, -, rfl⟩ | ⟨w, rest, -, -, hb, -, ha⟩ :=
    step_cases h
  · rfl
  · cases ht
  · simpa using hinv hi (by simp [hb])
  · simp
  · simp [acceptCommand_busy ha, hb] at hbt

/-- Settles O48: one lemma for the step and one for the clock edge. -/
theorem portInvariant : Obligations.PortInvariant := by
  unfold Obligations.PortInvariant
  exact ⟨fun _ _ => step_portInv, fun _ _ _ _ => clockEdge_portInv⟩

/-- Settles O49: without BUSY a step is reset, loss of power, a take or a whole command, and none of them sets it. -/
theorem noBusyTransaction : Obligations.NoBusyTransaction := by
  unfold Obligations.NoBusyTransaction
  intro s t hidle h ht
  obtain ⟨rest, -, rfl⟩ | ⟨rest, -, rfl⟩ | ⟨b, hi, hb, -⟩ | ⟨rest, -, -, hb, rfl⟩ | ⟨w, rest, -, -, hb, -, ha⟩ :=
    step_cases h
  · rfl
  · cases ht
  · rw [hidle hi] at hb; cases hb
  · simpa using hb
  · simpa using (acceptCommand_busy ha).trans hb

/-- Taking a response hands the host the word RSP held, if it held one (R51). -/
theorem takeResponse_taken (s : State) :
    s.takeResponse.taken = s.taken ∨ ∃ v, s.rsp = some v ∧ s.takeResponse.taken = s.taken ++ [v] := by
  cases h : s.rsp with
  | none => simp [h]
  | some v => simp [h]

/-- Settles O45: only the taking of a response touches what the host has taken. -/
theorem responsesInOrder : Obligations.ResponsesInOrder := by
  unfold Obligations.ResponsesInOrder
  intro s t h
  obtain ⟨rest, -, rfl⟩ | ⟨rest, -, rfl⟩ | ⟨b, -, -, rfl⟩ | ⟨rest, -, -, -, rfl⟩ | ⟨w, rest, -, -, -, -, ha⟩ :=
    step_cases h
  · exact .inl rfl
  · exact .inl rfl
  · exact .inl (by simp)
  · exact (takeResponse_taken (s.consume rest)).imp_right fun ⟨v, hv, htk⟩ => ⟨v, hv, by simp, htk⟩
  · obtain ⟨v, rfl⟩ | ⟨v, rfl⟩ | ⟨op, -, rfl⟩ := acceptCommand_effect ha <;> exact .inl rfl

/-! ### ACC (R20, R26) -/

/-- A command that changes ACC is SEED or feeds at least one byte. -/
theorem exec_changes_acc {i : Instr} {s t : State} (h : exec i s = .next t) (hne : t.acc ≠ s.acc) :
    (∃ d, i = .seed d) ∨ fedBytes i ≠ [] := by
  cases i
  case seed d => exact .inl ⟨d, rfl⟩
  case nop | read | status => cases h; exact absurd rfl hne
  all_goals exact .inr (List.cons_ne_nil _ _)

/-- Settles O46: reset and loss of power are restarts, taking a response keeps ACC, and of the commands only SEED and
the UPDATEs write it. -/
theorem onlyTheseTouchAcc : Obligations.OnlyTheseTouchAcc := by
  unfold Obligations.OnlyTheseTouchAcc
  intro s t hidle h hne
  obtain ⟨rest, hp, -⟩ | ⟨rest, hp, -⟩ | ⟨b, -, hb, -⟩ | ⟨rest, -, -, -, rfl⟩ | ⟨w, rest, hp, -, -, -, ha⟩ :=
    step_cases h
  · exact ⟨_, rest, hp, .inl rfl⟩
  · exact ⟨_, rest, hp, .inl rfl⟩
  · rw [hidle] at hb; cases hb
  · exact absurd (by simp) hne
  · refine ⟨_, rest, hp, ?_⟩
    obtain ⟨i, hd, hx⟩ | ⟨op, -, rfl⟩ := acceptCommand_cases ha
    · obtain ⟨d, rfl⟩ | hfed := exec_changes_acc hx hne
      · exact .inl (by simp [eventRestarts, opField_of_decode_control hd rfl, opcodeOf])
      · exact .inr (by simpa [eventFed, hd] using hfed)
    · exact absurd rfl hne

/-- The inversion of R80 is the complement. -/
theorem xor_inversion (c : Word) : c ^^^ inversion = ~~~c := BitVec.xor_allOnes

/-- Settles O23: both inversions of R80 are complements, and the outer one is undone. -/
theorem internalForm : Obligations.InternalForm := by
  unfold Obligations.InternalForm
  intro acc s
  rw [crc32c, xor_inversion, xor_inversion, BitVec.not_not]

end Sys2Proof.Machine

/-! PROOFS. The command port and the response port (20_memory.md): what performing a command leaves unchanged, the
block's steps at the transaction level, and the same handshakes edge by edge at the clock level. -/

namespace Sys2Proof.Machine

/-! ### A command and a run of UPDATEs (R40, R42, R43) -/

/-- NOP, READ and STATUS keep ACC (R47). -/
theorem exec_acc_of_onlyLooks {i : Instr} {s t : State} (h : exec i s = .next t) (hi : onlyLooks i = true) :
    t.acc = s.acc := by
  cases i
  case nop | read | status => cases h; rfl
  all_goals cases hi

/-- Only READ and STATUS fill RSP. -/
theorem exec_rsp {i : Instr} {s t : State} (h : exec i s = .next t) (hread : ∀ d, i ≠ .read d)
    (hstatus : ∀ d, i ≠ .status d) : t.rsp = s.rsp := by
  cases i
  case read d => exact absurd rfl (hread d)
  case status d => exact absurd rfl (hstatus d)
  all_goals cases h; rfl

/-- Settles O13: a command writes ACC or fills RSP and nothing else, and which commands do which is read off its
meaning. -/
theorem commandFrame : Obligations.CommandFrame := by
  unfold Obligations.CommandFrame
  intro i s
  obtain ⟨t, h⟩ := exec_next i s
  have hlooks := exec_acc_of_onlyLooks h
  have hrsp := exec_rsp h
  obtain ⟨v, rfl⟩ | ⟨v, rfl⟩ := exec_cases h <;>
    exact ⟨_, h, rfl, rfl, rfl, rfl, rfl, rfl, rfl, rfl, rfl, hlooks, hrsp⟩

/-- The word of a command decodes to that command (30_encoding.md R60, R62). -/
theorem decode_encode (i : Instr) : decode (encode i) = .command i := by
  obtain ⟨hop, hdata⟩ := Laws.EncodedFields.fields (opcodeOf i) i.data
  rw [decode, encode, hop, hdata]
  cases i <;> simp [decodeFields, opcodeOf, grpField, lenM1Field, updateOfLenM1, Instr.data]

/-- A ready block performs the command that the presented word decodes to, the event used up. -/
theorem step_decoded {s : State} {w : CmdWord} {i : Instr} {rest : List HostEvent} (hs : s.Ready)
    (hp : s.pending = .command w :: rest) (hd : decode w = .command i) : step s = exec i (s.consume rest) := by
  rw [step_command hp hs, acceptCommand, hd]

/-- Settles O31: the step accepts the word, and accepting it performs the command. -/
theorem stepRunsDecoded : Obligations.StepRunsDecoded := by
  unfold Obligations.StepRunsDecoded
  intro s w rest i hs hp hd _
  exact step_decoded hs hp hd

/-- The checksum over two sequences, the second continued from the first (40_crc_core.md R83). -/
theorem crc32c_append (seed : Word) (a b : List Byte) : crc32c seed (a ++ b) = crc32c (crc32c seed a) b := by
  have hcancel (c : Word) : c ^^^ inversion ^^^ inversion = c := by simp
  rw [crc32c, crc32c, crc32c, hcancel, crcLoop_append]

/-- An UPDATE command feeds the bytes it has (R120). -/
theorem fedBytes_update {i : Instr} {len : Nat} {data : Data} (h : updateOperand i = some (len, data)) :
    fedBytes i = bytesOf data len := by
  simp [fedBytes, h]

/-- A ready block that is presented a list of UPDATE commands runs them all, one step each, and ends ready with the
checksum over all their bytes: the statement the induction over the list carries. -/
theorem runs_updates (cmds : List Instr) (hupd : ∀ i ∈ cmds, (updateOperand i).isSome) {s : State}
    {rest : List HostEvent} (hs : s.Ready) (hp : s.pending = cmds.map (fun i => .command (encode i)) ++ rest) :
    ∃ t, Runs cmds.length s t ∧ t.Ready ∧ t.acc = crc32c s.acc (cmds.flatMap fedBytes) ∧ t.pending = rest := by
  induction cmds generalizing s with
  | nil => exact ⟨s, (runs_zero s s).mpr rfl, hs, by simp [crc32c], hp⟩
  | cons i cmds ih =>
    obtain ⟨⟨len, data⟩, hi⟩ := Option.isSome_iff_exists.mp (hupd i List.mem_cons_self)
    have hstep := (step_decoded hs hp (decode_encode i)).trans (exec_update hi _)
    obtain ⟨t, hrun, ht, hacc, hpend⟩ :=
      ih (fun j hj => hupd j (List.mem_cons_of_mem i hj)) (s := (s.consume _).feed len data) hs rfl
    refine ⟨t, (runs_succ cmds.length s t).mpr ⟨_, hstep, hrun⟩, ht, ?_, hpend⟩
    rw [hacc, List.flatMap_cons, fedBytes_update hi, crc32c_append]
    rfl

/-- Settles O14: the UPDATE1 commands feed byte by byte what the UPDATE of `len` bytes feeds at once. -/
theorem mixedWidths : Obligations.MixedWidths := by
  unfold Obligations.MixedWidths
  intro i len d x s rest hs hi hbytes hp
  obtain ⟨t, hrun, -, hacc, hpend⟩ := runs_updates ((List.range len).map fun k => .update1 (x k))
    (by simp [updateOperand]) hs (by rw [hp, List.map_map]; rfl)
  have hfed : ((List.range len).map fun k => Instr.update1 (x k)).flatMap fedBytes = bytesOf d len := by
    calc ((List.range len).map fun k => Instr.update1 (x k)).flatMap fedBytes
        = (List.range len).map fun k => byteOf (x k) 0 := by
          rw [List.flatMap_map, List.map_eq_flatMap]; rfl
      _ = bytesOf d len := List.map_congr_left fun k hk => hbytes k (List.mem_range.mp hk)
  exact ⟨t, _, by simpa using hrun, exec_update hi s, by rw [hacc, hfed]; rfl, hpend⟩

/-! ### Taking a response, and the end of a run (R51, R54) -/

/-- Settles O33: the step takes the response, if RSP holds one. -/
theorem takeResponse : Obligations.TakeResponse := by
  unfold Obligations.TakeResponse
  intro s rest hi hb hp
  rw [step_take hp hi hb]
  exact ⟨fun v hv => by rw [State.takeResponse_some (s.consume rest) v hv]; rfl,
    fun hr => by rw [State.takeResponse_none (s.consume rest) hr]; rfl⟩

/-- A command waits for ever on a response that the host does not take (60_exceptions.md R188). -/
theorem step_command_stuck {s : State} {w : CmdWord} {rest : List HostEvent} (hp : s.pending = .command w :: rest)
    (hi : s.initialised = true) (hb : s.busy = none) (hr : s.rsp.isSome = true) : step s = .fault .stuck := by
  simp [step, transact, hp, serveEvent, hi, hb, hr]

/-- With no event left and no UPDATE in progress the run has ended, or waits on a response that nobody takes. -/
theorem step_no_event {s : State} (hp : s.pending = []) (hi : s.initialised = true) (hb : s.busy = none) :
    step s = if s.rsp.isSome then .fault .stuck else .fault .quiescent := by
  simp [step, transact, hp, serveNothing, hi, hb]

/-- Accepting a command word always gives a next state (R180, R181). -/
theorem acceptCommand_next (w : CmdWord) (s : State) : ∃ t, acceptCommand w s = .next t := by
  unfold acceptCommand
  split
  · exact exec_next _ s
  · exact ⟨_, rfl⟩

/-- A step stops as quiescent only where every part of R54's condition holds: an UPDATE in progress goes on, an event
has its step or is stuck, and a response that nobody takes leaves the block stuck. -/
theorem quiescent_of_step {s : State} (hi : s.initialised = true) (h : step s = .fault .quiescent) :
    s.Quiescent := by
  cases hp : s.pending with
  | nil =>
    cases hb : s.busy with
    | some b => simp [step_busy hi hb, hp] at h
    | none =>
      rw [step_no_event hp hi hb] at h
      exact ⟨hp, hb, by simpa using h⟩
  | cons e rest =>
    cases e with
    | reset => simp [step_reset hp] at h
    | powerLoss => simp [step_powerLoss hp] at h
    | take =>
      cases hb : s.busy with
      | some b => simp [step_busy hi hb, hp] at h
      | none => simp [step_take hp hi hb] at h
    | command w =>
      cases hb : s.busy with
      | some b => simp [step_busy hi hb, hp] at h
      | none =>
        cases hr : s.rsp with
        | some v => simp [step_command_stuck hp hi hb (by simp [hr])] at h
        | none =>
          obtain ⟨t, ht⟩ := acceptCommand_next w (s.consume rest)
          simp [step_command hp ⟨hi, hb, hr⟩, ht] at h

/-- Settles O36: case by case over the host's next event, BUSY and RSP. -/
theorem quiescentRun : Obligations.QuiescentRun := by
  unfold Obligations.QuiescentRun
  intro s hi
  refine ⟨quiescent_of_step hi, fun ⟨hp, hb, hr⟩ => ?_⟩
  rw [step_no_event hp hi hb, hr]
  rfl

/-! ### The outputs (R50 to R52) -/

theorem cmdReady_iff (rst : Bool) (s : State) :
    cmdReady rst s = true ↔ rst = false ∧ s.busy = none ∧ s.rsp = none := by
  simp [cmdReady, and_assoc]

theorem rspValid_iff (rst : Bool) (s : State) : rspValid rst s = true ↔ rst = false ∧ ∃ v, s.rsp = some v := by
  simp [rspValid, Option.isSome_iff_exists]

/-- The outputs of a block that has been reset are the four levels of R50 to R52. -/
theorem ports_eq_some {rst : Bool} {s : State} {o : PortOut} (h : ports rst s = some o) :
    o = { cmdReady := cmdReady rst s, rspValid := rspValid rst s, rspData := rspData rst s, err := s.err } := by
  unfold ports at h
  split at h
  · exact (Option.some.inj h).symm
  · cases h

/-- The transaction at an edge is a command only where a command transfers. -/
theorem commandTransfers_of_edgeEvent {p : PortIn} {s : State} {w : CmdWord}
    (h : edgeEvent p s = some (.command w)) : commandTransfers p s = true := by
  unfold edgeEvent at h
  split_ifs at h with hrst hc htake <;> cases h
  exact hc

/-- Settles O51: cmd_ready is R50's equation, and a command transfers only while it is 1. -/
theorem commandReady : Obligations.CommandReady := by
  unfold Obligations.CommandReady
  refine ⟨fun rst s o ho => ?_, fun p s w hfail h => ?_⟩
  · rw [ports_eq_some ho]
    exact cmdReady_iff rst s
  · obtain ⟨-, hrst, hb, hr⟩ := (commandTransfers_iff p s).mp (commandTransfers_of_edgeEvent h)
    simp [hrst, hb, hr] at hfail

/-- Settles O52: each output from its equation, `rsp_data` by whether `rsp_valid` is 1. -/
theorem outputLevels : Obligations.OutputLevels := by
  unfold Obligations.OutputLevels
  intro rst s o ho
  rw [ports_eq_some ho]
  refine ⟨rfl, ?_, ?_, ?_, rspData_idle⟩
  · rintro rfl; exact ⟨rfl, rfl⟩
  · rintro rfl; simpa using rspValid_iff false s
  · rintro v rfl hv; exact rspData_valid hv

/-! ### The edge (R49) -/

/-- Settles O54: such a host violates the handshake, and that is asked first at every edge. -/
theorem hostViolationRefused : Obligations.HostViolationRefused := by
  unfold Obligations.HostViolationRefused
  intro stall p s w hw hbreak
  rw [clockEdge, if_pos ((hostViolates_iff p s).mpr ⟨w, hw, hbreak⟩)]

/-- A host that presents again what it had presented keeps the handshake. -/
theorem hostViolates_eq_false {p : PortIn} {s : State}
    (h : ∀ w, s.presented = some w → p.cmdValid = true ∧ p.word = w) : hostViolates p s = false := by
  rw [← Bool.not_eq_true, hostViolates_iff]
  rintro ⟨w, hw, hbreak⟩
  simp [h w hw] at hbreak

/-- Where a command transfers and the host keeps the handshake, the edge accepts it. -/
theorem clockEdge_accept {p : PortIn} {s : State} (hv : hostViolates p s = false) (hi : s.initialised = true)
    (hc : commandTransfers p s = true) (stall : Bool) :
    clockEdge stall p s = acceptEdge stall p.word (s.tick.present none) := by
  obtain ⟨-, hrst, -, -⟩ := (commandTransfers_iff p s).mp hc
  simp [clockEdge, hv, hrst, hi, hc]

/-- Accepting a command at an edge always gives a next state (R180, R181). -/
theorem acceptEdge_next (stall : Bool) (w : CmdWord) (s : State) : ∃ t, acceptEdge stall w s = .next t := by
  unfold acceptEdge
  split
  · split
    · exact ⟨_, rfl⟩
    · exact exec_next _ s
  · exact ⟨_, rfl⟩

theorem acceptEdge_presented {stall : Bool} {w : CmdWord} {s t : State} (h : acceptEdge stall w s = .next t) :
    t.presented = s.presented := by
  obtain ⟨i, len, data, -, -, rfl⟩ | ⟨i, -, -, hx⟩ | ⟨op, -, rfl⟩ := acceptEdge_cases h
  · simp
  · obtain ⟨v, rfl⟩ | ⟨v, rfl⟩ := exec_cases hx <;> rfl
  · rfl

/-- A host that keeps the handshake gets its edge, from the first reset edge on. -/
theorem clockEdge_next {p : PortIn} {s : State} (hv : hostViolates p s = false)
    (hi : s.initialised = true ∨ p.rst = true) (stall : Bool) : ∃ t, clockEdge stall p s = .next t := by
  cases hrst : p.rst with
  | true => exact ⟨resetEdge p s.tick, by simp [clockEdge, hv, hrst]⟩
  | false =>
    have hi : s.initialised = true := by simpa [hrst] using hi
    cases hc : commandTransfers p s with
    | true => rw [clockEdge_accept hv hi hc]; exact acceptEdge_next ..
    | false => exact ⟨waitEdge stall p s.tick, by simp [clockEdge, hv, hrst, hi, hc]⟩

/-- After an edge nothing is presented if the command transferred, else what the host presented still is. -/
theorem clockEdge_presented {stall : Bool} {p : PortIn} {s t : State} (h : clockEdge stall p s = .next t) :
    t.presented = if commandTransfers p s then none else p.offered := by
  obtain ⟨hrst, -, rfl⟩ | ⟨-, -, -, hc, ha⟩ | ⟨-, -, -, hc, rfl⟩ := clockEdge_cases h
  · have hc : commandTransfers p s = false := by simp [commandTransfers, cmdReady, hrst]
    rw [hc]; rfl
  · rw [hc]; exact acceptEdge_presented ha
  · rw [hc]; rfl

/-- Settles O55: the edge exists, and what it leaves presented turns on whether the command transfers. -/
theorem edgeCompletes : Obligations.EdgeCompletes := by
  unfold Obligations.EdgeCompletes
  intro stall p s hi hkeeps
  obtain ⟨t, h⟩ := clockEdge_next (hostViolates_eq_false hkeeps) hi stall
  refine ⟨t, h, ?_⟩
  rw [clockEdge_presented h]
  refine ⟨fun hvalid hrst hb hr => ?_, fun hvalid hwaits => ?_, fun hvalid => ?_⟩
  · rw [if_pos ((commandTransfers_iff p s).mpr ⟨hvalid, hrst, hb, hr⟩)]
  · have hc : ¬ commandTransfers p s = true := by
      rw [commandTransfers_iff]
      rintro ⟨-, hrst, hb, hr⟩
      simp [hrst, hb, hr] at hwaits
    rw [if_neg hc, PortIn.offered, if_pos hvalid]
  · simp [PortIn.offered, hvalid]

/-! ### The edge that performs a command whole (R51, R215) -/

theorem updateOperand_len_le {i : Instr} {len : Nat} {data : Data} (h : updateOperand i = some (len, data)) :
    len ≤ 8 := by
  cases i <;> cases h <;> decide

/-- Eight bytes at most are one clock of the SLICE8 datapath (R149, R150). -/
theorem busyDone_slice8Clock (c : Word) {s : List Byte} (h : s.length ≤ 8) : busyDone (slice8Clock c s) = true := by
  unfold slice8Clock
  split
  · simpa [busyDone, Nat.lt_succ_iff] using h
  · rfl

/-- An UPDATE whose data has been consumed has written ACC with the value it ends with (R142). -/
theorem holdBusy_of_done {b : Busy} (h : busyDone b = true) (s : State) :
    s.holdBusy b = { s with acc := busyFinal b ^^^ inversion, busy := none } := by
  rw [State.holdBusy, if_pos h, busyFinal_of_done b h]

/-- On SLICE8, without a stall, an UPDATE is performed whole at its transfer edge (R215). -/
theorem advance_slice8 {s : State} (hdp : s.datapath = .slice8) (hb : s.busy = none) {len : Nat} (hlen : len ≤ 8)
    (data : Data) : s.advance false (busyStart s.datapath s.acc (bytesOf data len)) = s.feed len data := by
  have hdone : busyDone (datapathClock s.datapath (busyStart s.datapath s.acc (bytesOf data len))) = true := by
    rw [hdp]; exact busyDone_slice8Clock _ (by simpa [bytesOf] using hlen)
  change s.holdBusy _ = _
  rw [holdBusy_of_done hdone, busyFinal_datapathClock, busyFinal_busyStart, ← hb]
  rfl

/-- A control command, and on SLICE8 without a stall every command, is performed whole at the edge that accepts it. -/
theorem acceptEdge_eq_exec {stall : Bool} {w : CmdWord} {i : Instr} {s : State} (hd : decode w = .command i)
    (hb : s.busy = none) (hwhole : updateOperand i = none ∨ (s.datapath = .slice8 ∧ stall = false)) :
    acceptEdge stall w s = exec i s := by
  cases hu : updateOperand i with
  | none => simp [acceptEdge, hd, hu]
  | some operand =>
    obtain ⟨len, data⟩ := operand
    obtain ⟨hdp, rfl⟩ := hwhole.resolve_left (by simp [hu])
    rw [exec_update hu, ← advance_slice8 hdp hb (updateOperand_len_le hu)]
    simp [acceptEdge, hd, hu]

/-- Settles O56: the edge accepts the command, and performs it whole. -/
theorem edgeRunsDecoded : Obligations.EdgeRunsDecoded := by
  unfold Obligations.EdgeRunsDecoded
  intro stall p s i ⟨hi, hb, hr⟩ hrst hvalid hkeeps hd hwhole
  have hv : hostViolates p s = false := hostViolates_eq_false fun w hw => ⟨hvalid, hkeeps w hw⟩
  rw [clockEdge_accept hv hi ((commandTransfers_iff p s).mpr ⟨hvalid, hrst, hb, hr⟩)]
  exact acceptEdge_eq_exec (s := s.tick.present none) hd hb hwhole

end Sys2Proof.Machine

/-! PROOFS. The encoding (30_encoding.md): the decoder said once as what it answers and for which word, the words of the
assembler as encoded commands, and `feed` cut into the chunks its words carry. -/

namespace Sys2Proof.Machine

/-! ### The decoder and the encoder (R60 to R63, R66) -/

/-- Decoding the word of two port fields decodes the fields (R49, R60). -/
theorem decode_cmdWord (op : Opcode) (d : Data) : decode (cmdWord op d) = decodeFields op d := by
  obtain ⟨hop, hdata⟩ := Laws.EncodedFields.fields op d
  rw [decode, hop, hdata]

/-- A command word is its two fields, and no bit of it is outside them (R60). -/
theorem cmdWord_opField_dataField (w : CmdWord) : cmdWord (opField w) (dataField w) = w := by
  rw [cmdWord, opField, dataField, BitVec.extractLsb'_append_extractLsb'_eq_extractLsb' (by rfl)]
  exact BitVec.extractLsb'_eq_self

/-- An opcode is its two sub-fields (R61). -/
theorem grpField_append_lenM1Field (op : Opcode) : grpField op ++ lenM1Field op = op := by
  rw [grpField, lenM1Field, BitVec.extractLsb'_append_extractLsb'_eq_extractLsb' (by rfl)]
  exact BitVec.extractLsb'_eq_self

/-- The UPDATE that `len_m1` selects has the opcode with `grp` = 0b00010, and the operand field it was given. -/
theorem encode_updateOfLenM1 (k : BitVec 3) (d : Data) :
    encode (updateOfLenM1 k d) = cmdWord (0b00010#5 ++ k) d := by
  have hk : k = BitVec.ofNat 3 k.toNat := by simp
  have hlt : k.toNat < 8 := k.isLt
  generalize k.toNat = n at hk hlt
  subst hk
  interval_cases n <;> rfl

/-- An opcode with `grp` = 0b00010 decodes to the UPDATE that `len_m1` selects: the control opcodes have `grp` = 0
(R61 to R63). -/
theorem decodeFields_update {op : Opcode} (h : grpField op = 0b00010#5) (d : Data) :
    decodeFields op d = .command (updateOfLenM1 (lenM1Field op) d) := by
  obtain ⟨h0, h1, h2, h3⟩ : op ≠ 0x00#8 ∧ op ≠ 0x01#8 ∧ op ≠ 0x02#8 ∧ op ≠ 0x03#8 := by
    refine ⟨?_, ?_, ?_, ?_⟩ <;> rintro rfl <;> cases h
  rw [decodeFields, if_neg h0, if_neg h1, if_neg h2, if_neg h3, if_pos h]

/-- What the decoder can answer: the command whose word it was given, or the opcode of that word as reserved (R63). -/
theorem decode_cases (w : CmdWord) :
    (∃ i, decode w = .command i ∧ encode i = w) ∨ decode w = .reserved (opField w) := by
  have hw := cmdWord_opField_dataField w
  rw [decode]
  generalize opField w = op at *
  generalize dataField w = d at *
  subst hw
  by_cases hgrp : grpField op = 0b00010#5
  · refine .inl ⟨_, decodeFields_update hgrp d, ?_⟩
    rw [encode_updateOfLenM1, ← hgrp, grpField_append_lenM1Field]
  · unfold decodeFields
    split_ifs with h0 h1 h2 h3
    · exact .inl ⟨_, rfl, by rw [h0]; rfl⟩
    · exact .inl ⟨_, rfl, by rw [h1]; rfl⟩
    · exact .inl ⟨_, rfl, by rw [h2]; rfl⟩
    · exact .inl ⟨_, rfl, by rw [h3]; rfl⟩
    · exact .inr rfl

/-- The word a command was decoded from is the word of that command. -/
theorem encode_of_decode {w : CmdWord} {i : Instr} (h : decode w = .command i) : encode i = w := by
  obtain ⟨j, hj, hw⟩ | hr := decode_cases w
  · cases hj.symm.trans h; exact hw
  · cases hr.symm.trans h

/-- Settles O2: one lemma for each way. -/
theorem decodeEncode : Obligations.DecodeEncode := by
  unfold Obligations.DecodeEncode
  exact ⟨fun i _ => decode_encode i, fun _ _ => encode_of_decode⟩

/-- Settles O1: the control opcodes by evaluation, the UPDATE group by its sub-field, and every other opcode falls
through all five tests. -/
theorem decodeIsTheMap : Obligations.DecodeIsTheMap := by
  unfold Obligations.DecodeIsTheMap
  intro op d
  rw [decode_cmdWord]
  refine ⟨?_, ?_, ?_, ?_, fun hgrp => ?_, fun h0 h1 h2 h3 hgrp => ?_⟩
  · rintro rfl; rfl
  · rintro rfl; rfl
  · rintro rfl; rfl
  · rintro rfl; rfl
  · exact ⟨_, decodeFields_update hgrp d, updateOperand_updateOfLenM1 _ d⟩
  · exact (if_neg h0).trans <| (if_neg h1).trans <| (if_neg h2).trans <| (if_neg h3).trans <| if_neg hgrp

/-- No command has a reserved opcode (R62, R66). -/
theorem isReserved_opcodeOf (i : Instr) : isReserved (opcodeOf i) = false := by
  cases i <;> rfl

/-- A reserved opcode decodes as itself, whatever the data is (R66). -/
theorem decode_of_isReserved {op : Opcode} (h : isReserved op = true) (d : Data) :
    decode (cmdWord op d) = .reserved op := by
  obtain ⟨hop, -⟩ := Laws.EncodedFields.fields op d
  obtain ⟨i, -, hi⟩ | hr := decode_cases (cmdWord op d)
  · obtain ⟨hopi, -⟩ := Laws.EncodedFields.fields (opcodeOf i) i.data
    have hopcode : opcodeOf i = op := by rw [← hopi, ← hop, ← hi, encode]
    rw [← hopcode, isReserved_opcodeOf] at h
    cases h
  · rw [hr, hop]

/-! ### The operand bytes (R41, R64) -/

/-- The bytes an UPDATE feeds depend on its `8 * len` low data bits only (R64). -/
theorem bytesOf_congr {len : Nat} {d e : Data} (h : d.setWidth (8 * len) = e.setWidth (8 * len)) :
    bytesOf d len = bytesOf e len := by
  refine List.map_congr_left fun k hk => ?_
  have hk := List.mem_range.mp hk
  ext j hj
  have hbit := congrArg (·.getLsbD (8 * k + j)) h
  simpa [byteOf, show 8 * k + j < 8 * len by omega] using hbit

/-- Two UPDATE commands of one length whose used data bits agree do the same (R65). -/
theorem exec_update_congr {i j : Instr} {len : Nat} {d e : Data} (hi : updateOperand i = some (len, d))
    (hj : updateOperand j = some (len, e)) (h : d.setWidth (8 * len) = e.setWidth (8 * len)) (s : State) :
    exec i s = exec j s := by
  rw [exec_update hi, exec_update hj, State.feed, State.feed, bytesOf_congr h]

theorem seedOperand_eq_setWidth (d : Data) : seedOperand d = d.setWidth 32 :=
  (BitVec.setWidth_eq_extractLsb' (by decide)).symm

theorem bytesOf_succ (d : Data) (n : Nat) :
    bytesOf d (n + 1) = byteOf d 0 :: (List.range n).map fun k => byteOf d (k + 1) := by
  rw [bytesOf, List.range_succ_eq_map, List.map_cons, List.map_map]
  rfl

/-- The first byte packed is the low one (R68). -/
theorem byteOf_packBytes_zero (b : Byte) (s : List Byte) : byteOf (packBytes (b :: s)) 0 = b := by
  ext j hj
  simp [byteOf, packBytes, hj, show j < 64 by omega]

/-- The bytes packed after the first are one place up, as far as the data field reaches (R68). -/
theorem byteOf_packBytes_succ (b : Byte) (s : List Byte) {k : Nat} (hk : k < 7) :
    byteOf (packBytes (b :: s)) (k + 1) = byteOf (packBytes s) k := by
  ext j hj
  have hplace : 8 * (k + 1) + j = 8 * k + j + 8 := by omega
  simp [byteOf, packBytes, hplace, show 8 * k + j + 8 < 64 by omega,
    BitVec.getLsbD_eq_getElem (show 8 * k + j < 64 by omega)]

/-- Unpacking what was packed gives the bytes back, up to the eight a data field holds (R41, R68). -/
theorem bytesOf_packBytes {s : List Byte} (h : s.length ≤ 8) : bytesOf (packBytes s) s.length = s := by
  induction s with
  | nil => rfl
  | cons b s ih =>
    rw [List.length_cons] at h
    have htail : (List.range s.length).map (fun k => byteOf (packBytes (b :: s)) (k + 1)) = s := by
      refine (List.map_congr_left fun k hk => ?_).trans (ih (by omega))
      have := List.mem_range.mp hk
      exact byteOf_packBytes_succ b s (by omega)
    rw [List.length_cons, bytesOf_succ, byteOf_packBytes_zero, htail]

/-- Packed bytes leave the data bits above them 0 (R65, R68). -/
theorem packBytes_lt (s : List Byte) : (packBytes s).toNat < 2 ^ (8 * s.length) := by
  induction s with
  | nil => decide
  | cons b s ih =>
    have hpow : 2 ^ (8 * (s.length + 1)) = 2 ^ (8 * s.length) * 256 := by rw [Nat.mul_succ, Nat.pow_add]
    rw [packBytes, BitVec.toNat_or, List.length_cons]
    refine Nat.or_lt_two_pow ?_ ?_
    · rw [BitVec.toNat_shiftLeft, Nat.shiftLeft_eq]
      have := Nat.mod_le ((packBytes s).toNat * 2 ^ 8) (2 ^ 64)
      omega
    · have hb := b.isLt
      have := Nat.one_le_two_pow (n := 8 * s.length)
      rw [BitVec.toNat_setWidth_of_le (by decide)]
      omega

/-! ### The words of the assembler (R68, R69) -/

/-- The word of `updL` is that of the UPDATE command of `len` bytes (R68). -/
theorem decode_updWord {len : Nat} (h1 : 1 ≤ len) (h8 : len ≤ 8) (d : Data) :
    ∃ i, decode (updWord len d) = .command i ∧ updateOperand i = some (len, d) := by
  obtain ⟨k, rfl⟩ : ∃ k, len = k + 1 := ⟨len - 1, by omega⟩
  have hop : 0b00010#5 ++ BitVec.ofNat 3 k = BitVec.ofNat 8 (0x10 + (k + 1) - 1) := by
    have hk : k < 8 := h8
    interval_cases k <;> rfl
  have hword : updWord (k + 1) d = encode (updateOfLenM1 (BitVec.ofNat 3 k) d) := by
    rw [updWord, encode_updateOfLenM1, hop]
  have hlen : (BitVec.ofNat 3 k).toNat = k := Nat.mod_eq_of_lt h8
  exact ⟨_, hword ▸ decode_encode _, by rw [updateOperand_updateOfLenM1, hlen]⟩

/-- An UPDATE word made of packed bytes feeds those bytes. -/
theorem eventFed_updWord_packBytes {c : List Byte} (h1 : 1 ≤ c.length) (h8 : c.length ≤ 8) :
    eventFed (.command (updWord c.length (packBytes c))) = c := by
  obtain ⟨i, hd, hi⟩ := decode_updWord h1 h8 (packBytes c)
  simp only [eventFed, hd]
  rw [fedBytes_update hi, bytesOf_packBytes h8]

/-- A list that does not begin with eight elements has fewer. -/
theorem length_lt_eight {s : List Byte}
    (h : ∀ b0 b1 b2 b3 b4 b5 b6 b7 t, s = b0 :: b1 :: b2 :: b3 :: b4 :: b5 :: b6 :: b7 :: t → False) :
    s.length < 8 := by
  by_contra hlen
  exact h s[0] s[1] s[2] s[3] s[4] s[5] s[6] s[7] (s.drop 8) (by simp only [List.getElem_cons_drop, List.drop_zero])

/-- `feed` cuts its bytes into chunks of one to eight, one for each eight bytes begun, and each word is the UPDATE of
its chunk (R69). -/
theorem feedWords_eq_map (bytes : List Byte) :
    ∃ chunks : List (List Byte), feedWords bytes = chunks.map (fun c => updWord c.length (packBytes c)) ∧
      chunks.flatten = bytes ∧ (∀ c ∈ chunks, 1 ≤ c.length ∧ c.length ≤ 8) ∧
      chunks.length = (bytes.length + 7) / 8 := by
  induction bytes using feedWords.induct with
  | case1 b0 b1 b2 b3 b4 b5 b6 b7 s ih =>
    obtain ⟨chunks, hwords, hflat, hlen, hcount⟩ := ih
    refine ⟨[b0, b1, b2, b3, b4, b5, b6, b7] :: chunks, ?_, ?_, ?_, ?_⟩
    · rw [feedWords, hwords]; rfl
    · rw [List.flatten_cons, hflat]; rfl
    · exact List.forall_mem_cons.mpr ⟨by simp, hlen⟩
    · simp only [List.length_cons, hcount]; omega
  | case2 => exact ⟨[], rfl, rfl, by simp, rfl⟩
  | case3 s hfew hne =>
    have hlt : s.length < 8 := length_lt_eight hfew
    have hpos : 0 < s.length := List.length_pos_iff.mpr hne
    refine ⟨[s], ?_, by simp, by simp; omega, ?_⟩
    · rw [feedWords, List.map_singleton] <;> assumption
    · rw [List.length_singleton]; omega

/-- An UPDATE command is not one that only looks. -/
theorem onlyLooks_of_update {i : Instr} {operand : Nat × Data} (h : updateOperand i = some operand) :
    onlyLooks i = false := by
  cases i <;> cases h <;> rfl

/-- Settles O59: chunk by chunk. -/
theorem feedExpansion : Obligations.FeedExpansion := by
  unfold Obligations.FeedExpansion
  intro bytes
  obtain ⟨chunks, hwords, hflat, hlen, hcount⟩ := feedWords_eq_map bytes
  refine ⟨?_, fun w hw => ?_, by rw [hwords, List.length_map, hcount]⟩
  · calc (writeEvents bytes).flatMap eventFed
        = chunks.flatMap fun c => eventFed (.command (updWord c.length (packBytes c))) := by
          rw [writeEvents, hwords, List.flatMap_map, List.flatMap_map]
      _ = chunks.flatMap id := List.flatMap_congr fun c hc => eventFed_updWord_packBytes (hlen c hc).1 (hlen c hc).2
      _ = bytes := by rw [List.flatMap_id, hflat]
  · rw [hwords] at hw
    obtain ⟨c, hc, rfl⟩ := List.mem_map.mp hw
    obtain ⟨h1, h8⟩ := hlen c hc
    obtain ⟨i, hd, hi⟩ := decode_updWord h1 h8 (packBytes c)
    exact ⟨i, hd, onlyLooks_of_update hi⟩

/-! ### Ignored bits (R65) -/

/-- The word is that of a command in the form the assembler writes. -/
def CanonicalWord (w : CmdWord) : Prop := ∃ i, decode w = .command i ∧ i.canonical = true

theorem canonicalWord_encode {i : Instr} (h : i.canonical = true) : CanonicalWord (encode i) :=
  ⟨i, decode_encode i, h⟩

/-- An UPDATE command is in the assembler's form if its data fits its length. -/
theorem canonical_of_update {i : Instr} {len : Nat} {d : Data} (hi : updateOperand i = some (len, d))
    (hd : d.toNat < 2 ^ (8 * len)) : i.canonical = true := by
  obtain ⟨hdata, hbits⟩ : i.data = d ∧ i.usedBits = 8 * len := by
    cases i <;> cases hi <;> exact ⟨rfl, rfl⟩
  rw [Instr.canonical, hdata, hbits]
  exact decide_eq_true hd

theorem canonicalWord_updWord {len : Nat} (h1 : 1 ≤ len) (h8 : len ≤ 8) {d : Data} (hd : d.toNat < 2 ^ (8 * len)) :
    CanonicalWord (updWord len d) := by
  obtain ⟨i, hdec, hi⟩ := decode_updWord h1 h8 d
  exact ⟨i, hdec, canonical_of_update hi hd⟩

theorem canonicalWord_seed {imm : Nat} (h : imm < 2 ^ 32) : CanonicalWord (cmdWord 0x01 (BitVec.ofNat 64 imm)) :=
  canonicalWord_encode (i := .seed (BitVec.ofNat 64 imm))
    (decide_eq_true ((Nat.mod_le imm (2 ^ 64)).trans_lt h))

theorem canonicalWord_of_mem_feedWords {bytes : List Byte} {w : CmdWord} (hw : w ∈ feedWords bytes) :
    CanonicalWord w := by
  obtain ⟨chunks, hwords, -, hlen, -⟩ := feedWords_eq_map bytes
  rw [hwords] at hw
  obtain ⟨c, hc, rfl⟩ := List.mem_map.mp hw
  exact canonicalWord_updWord (hlen c hc).1 (hlen c hc).2 (packBytes_lt c)

/-- Every line that the assembler takes, but `.cmd`, stands for commands whose ignored bits are 0 (R65, R68). -/
theorem canonicalWord_of_mem_words {a : Asm} (hwf : a.wellFormed = true) (hcmd : ∀ op data, a ≠ .cmd op data) :
    ∀ w ∈ a.words, CanonicalWord w := by
  cases a with
  | nop => exact List.forall_mem_singleton.mpr (canonicalWord_encode (i := .nop 0) rfl)
  | read => exact List.forall_mem_singleton.mpr (canonicalWord_encode (i := .read 0) rfl)
  | status => exact List.forall_mem_singleton.mpr (canonicalWord_encode (i := .status 0) rfl)
  | clear => exact List.forall_mem_singleton.mpr (canonicalWord_encode (i := .seed 0) rfl)
  | seed imm => exact List.forall_mem_singleton.mpr (canonicalWord_seed (of_decide_eq_true hwf))
  | upd len imm =>
    simp only [Asm.wellFormed, Bool.and_eq_true, decide_eq_true_eq] at hwf
    obtain ⟨⟨h1, h8⟩, himm⟩ := hwf
    exact List.forall_mem_singleton.mpr (canonicalWord_updWord h1 h8 ((Nat.mod_le imm _).trans_lt himm))
  | updBytes len bytes =>
    simp only [Asm.wellFormed, Bool.and_eq_true, decide_eq_true_eq] at hwf
    obtain ⟨⟨⟨h1, h8⟩, rfl⟩, -⟩ := hwf
    refine List.forall_mem_singleton.mpr (canonicalWord_updWord h1 h8 ?_)
    simpa [toBytes] using packBytes_lt (toBytes bytes)
  | cmd op data => exact absurd rfl (hcmd op data)
  | feed bytes => exact fun _ => canonicalWord_of_mem_feedWords
  | feedString chars => exact fun _ => canonicalWord_of_mem_feedWords
  | crc start bytes =>
    simp only [Asm.wellFormed, Bool.and_eq_true, decide_eq_true_eq] at hwf
    obtain ⟨hstart, -⟩ := hwf
    refine List.forall_mem_cons.mpr ⟨canonicalWord_seed hstart, List.forall_mem_append.mpr ⟨?_, ?_⟩⟩
    · exact fun _ => canonicalWord_of_mem_feedWords
    · exact List.forall_mem_singleton.mpr (canonicalWord_encode (i := .read 0) rfl)

theorem assemble_eq_some {a : Asm} {ws : List CmdWord} (h : assemble a = some ws) :
    a.wellFormed = true ∧ a.words = ws := by
  simpa [assemble] using h

/-- Settles O5: NOP, READ and STATUS do not look at their data, SEED and the UPDATEs look at the bits that agree, a
reserved command only at `op`; and the words of a line are canonical line by line. -/
theorem ignoredBits : Obligations.IgnoredBits := by
  unfold Obligations.IgnoredBits
  refine ⟨fun s d e => ⟨rfl, rfl, rfl, fun h => ?_, fun h => exec_update_congr (len := 1) rfl rfl h s,
    fun h => exec_update_congr (len := 2) rfl rfl h s, fun h => exec_update_congr (len := 3) rfl rfl h s,
    fun h => exec_update_congr (len := 4) rfl rfl h s, fun h => exec_update_congr (len := 5) rfl rfl h s,
    fun h => exec_update_congr (len := 6) rfl rfl h s, fun h => exec_update_congr (len := 7) rfl rfl h s,
    fun op hop => ?_⟩, fun a ws hasm hcmd => ?_⟩
  · change execSeed d s = execSeed e s
    rw [execSeed, execSeed, seedOperand_eq_setWidth, seedOperand_eq_setWidth, h]
  · rw [acceptCommand, acceptCommand, decode_of_isReserved hop, decode_of_isReserved hop]
  · obtain ⟨hwf, rfl⟩ := assemble_eq_some hasm
    exact canonicalWord_of_mem_words hwf hcmd

/-! ### The worked encodings (R70) -/

/-- Settles O3: closed values. -/
theorem encodingExamples : Obligations.EncodingExamples := by
  unfold Obligations.EncodingExamples
  exact ⟨by decide, by decide, by decide, by decide, by decide, by decide, by decide⟩

/-- Settles O4: closed values. -/
theorem decodeWords : Obligations.DecodeWords := by
  unfold Obligations.DecodeWords
  exact ⟨by decide, by decide, by decide, by decide, by decide, by decide, by decide, by decide⟩

end Sys2Proof.Machine

/-! PROOFS. The laws of the CRC-32C function (40_crc_core.md R83 to R90), from the linearity and the injectivity of the
byte step, and that the datapath a block is built with shows in STATUS responses only (70_reset_and_hazards.md R216). -/

namespace Sys2Proof.Machine

/-! ### Incremental composability and the seed identity (R83, R84) -/

/-- Settles O15: the two inversions between the parts cancel. -/
theorem composability : Obligations.Composability := by
  unfold Obligations.Composability
  intro seed a b
  exact (crc32c_append seed a b).symm

/-- Settles O16: with no byte to run over, the two inversions cancel. -/
theorem seedIdentity : Obligations.SeedIdentity := by
  unfold Obligations.SeedIdentity
  intro seed
  simp [crc32c]

/-! ### The affine law (R87) -/

/-- The loop is linear in its value and its bytes jointly. -/
theorem crcLoop_xor (a b : Word) {x y : List Byte} (h : x.length = y.length) :
    crcLoop (a ^^^ b) (List.zipWith (fun u v => u ^^^ v) x y) = crcLoop a x ^^^ crcLoop b y := by
  induction x generalizing a b y with
  | nil => cases List.length_eq_zero_iff.mp h.symm; rfl
  | cons u x ih =>
    cases y with
    | nil => cases h
    | cons v y =>
      rw [List.zipWith_cons_cons, crcLoop_cons, step8_xor, ih _ _ (Nat.succ.inj h)]
      rfl

/-- Three inversions combine into one (R87). -/
theorem xor_inversion_of_three (a b c : Word) :
    a ^^^ b ^^^ c ^^^ inversion = (a ^^^ inversion) ^^^ (b ^^^ inversion) ^^^ (c ^^^ inversion) := by
  have hcancel : inversion ^^^ inversion ^^^ inversion = inversion := by decide
  calc a ^^^ b ^^^ c ^^^ inversion = a ^^^ b ^^^ c ^^^ (inversion ^^^ inversion ^^^ inversion) := by rw [hcancel]
    _ = _ := by ac_rfl

/-- Settles O17: the loop is linear, and of the three inversions before it, as of the three after it, one is left. -/
theorem affineLaw : Obligations.AffineLaw := by
  unfold Obligations.AffineLaw
  intro s1 s2 s3 x1 x2 x3 h12 h23
  have hlen : (List.zipWith (fun a b => a ^^^ b) x1 x2).length = x3.length := by simp [h12, h23]
  simp only [crc32c]
  rw [← xor_inversion_of_three, xor_inversion_of_three s1, crcLoop_xor _ _ hlen, crcLoop_xor _ _ h12]

/-! ### Single-byte sensitivity (R88): every stage of the loop is injective -/

/-- Bit 31 of the shifted value is the bit shifted out, for the polynomial has bit 31 set (R80). -/
theorem getLsbD_shiftOnce_top (c : Word) : (shiftOnce c).getLsbD 31 = c.getLsbD 0 := by
  have hpoly : polynomial.getLsbD 31 = true := by decide
  unfold shiftOnce
  split
  · rw [BitVec.getLsbD_xor, hpoly]; simp [*]
  · simpa using ‹¬ c.getLsbD 0 = true›

/-- The low bit is told from bit 31 of the result, and with it the bits that moved down. -/
theorem shiftOnce_injective : Function.Injective shiftOnce := by
  intro c d h
  have hlow : c.getLsbD 0 = d.getLsbD 0 := by rw [← getLsbD_shiftOnce_top, h, getLsbD_shiftOnce_top]
  have hshift : c >>> 1 = d >>> 1 := by
    unfold shiftOnce at h
    rw [hlow] at h
    split at h
    · exact (BitVec.xor_left_inj _).mp h
    · exact h
  apply BitVec.eq_of_getLsbD_eq
  intro j hj
  cases j with
  | zero => exact hlow
  | succ j => simpa [Nat.add_comm] using congrArg (·.getLsbD j) hshift

theorem shiftTimes_injective (n : Nat) : Function.Injective (shiftTimes n) := by
  induction n with
  | zero => exact fun _ _ h => h
  | succ n ih => exact ih.comp shiftOnce_injective

/-- Different values stay different over the same byte. -/
theorem step8_value_injective (b : Byte) : Function.Injective (step8 · b) :=
  fun _ _ h => (BitVec.xor_left_inj _).mp (shiftTimes_injective 8 h)

/-- Different bytes lead the same value to different values. -/
theorem step8_byte_injective (c : Word) : Function.Injective (step8 c) := by
  intro b b' h
  have hwide : b.setWidth 32 = b'.setWidth 32 := (BitVec.xor_right_inj _).mp (shiftTimes_injective 8 h)
  simpa using congrArg (BitVec.setWidth 8) hwide

/-- Different values stay different over the same bytes. -/
theorem crcLoop_injective (s : List Byte) : Function.Injective (crcLoop · s) := by
  induction s with
  | nil => exact fun _ _ h => h
  | cons b s ih => exact ih.comp (step8_value_injective b)

/-- Two sequences that differ in one byte have different checksums. -/
theorem crc32c_ne_of_byte_ne (seed : Word) (pre post : List Byte) {b b' : Byte} (h : b ≠ b') :
    crc32c seed (pre ++ b :: post) ≠ crc32c seed (pre ++ b' :: post) := by
  intro heq
  have hloop := (BitVec.xor_left_inj _).mp heq
  rw [crcLoop_append, crcLoop_append] at hloop
  exact h (step8_byte_injective _ (crcLoop_injective post hloop))

/-- A flipped bit changes a byte. -/
theorem xor_bit_ne (b : Byte) {j : Nat} (hj : j < 8) : b ^^^ (1#8 <<< j) ≠ b := by
  intro h
  have hbit := congrArg (·.getLsbD j) h
  simp [hj] at hbit

/-- Settles O18: the loop up to the byte, the step on the byte and the loop after it are injective. -/
theorem singleByteSensitivity : Obligations.SingleByteSensitivity := by
  unfold Obligations.SingleByteSensitivity
  exact ⟨fun seed pre post _ _ h => crc32c_ne_of_byte_ne seed pre post h,
    fun seed pre post b _ hj => crc32c_ne_of_byte_ne seed pre post (xor_bit_ne b hj)⟩

/-! ### Fixed points of zero bytes (R89) -/

/-- A seed that one zero byte keeps is kept by any number of them. -/
theorem crc32c_zeros {seed : Word} (h : step8 (seed ^^^ inversion) 0 = seed ^^^ inversion) (n : Nat) :
    crc32c seed (List.replicate n 0) = seed := by
  have hloop : crcLoop (seed ^^^ inversion) (List.replicate n 0) = seed ^^^ inversion := by
    induction n with
    | zero => rfl
    | succ n ih => rw [List.replicate_succ, crcLoop_cons, h, ih]
  rw [crc32c, hloop]
  simp

/-- The bytes of data 0 are zero bytes. -/
theorem bytesOf_zero (len : Nat) : bytesOf 0 len = List.replicate len 0 := by
  have hbyte : byteOf 0 = Function.const Nat 0 := by funext k; simp [byteOf]
  rw [bytesOf, hbyte, List.map_const, List.length_range]

/-- An UPDATE with data 0 does nothing to a block whose ACC one zero byte keeps. -/
theorem exec_update_zeros {i : Instr} {len : Nat} (hi : updateOperand i = some (len, 0)) {s : State}
    (h : step8 (s.acc ^^^ inversion) 0 = s.acc ^^^ inversion) : exec i s = .next s := by
  rw [exec_update hi, State.feed, bytesOf_zero, crc32c_zeros h]
  rfl

/-- Settles O19: 0xFFFFFFFF is 0 in the internal domain, which a zero byte keeps. -/
theorem fixedPoint : Obligations.FixedPoint := by
  unfold Obligations.FixedPoint
  have hzero : step8 (0xFFFFFFFF ^^^ inversion) 0 = 0xFFFFFFFF ^^^ inversion := by decide
  exact ⟨crc32c_zeros hzero, by decide, fun i len s hi hacc => exec_update_zeros hi (by rw [hacc]; exact hzero)⟩

/-- Settles O20: 0x035BD250 is 0xFCA42DAF in the internal domain, which a zero byte keeps too. -/
theorem secondFixedPoint : Obligations.SecondFixedPoint := by
  unfold Obligations.SecondFixedPoint
  have hfix : step8 (0x035BD250 ^^^ inversion) 0 = 0x035BD250 ^^^ inversion := by decide
  exact ⟨crc32c_zeros hfix, fun s hacc => exec_update_zeros rfl (by rw [hacc]; exact hfix)⟩

/-! ### The residue (R90) -/

/-- A word is the word of its four bytes. -/
theorem wordOf_extractLsb' (v : Word) :
    wordOf (v.extractLsb' 0 8) (v.extractLsb' 8 8) (v.extractLsb' 16 8) (v.extractLsb' 24 8) = v := by
  apply BitVec.eq_of_getLsbD_eq
  intro j hj
  rw [getLsbD_wordOf]
  split_ifs with h8 h16 h24
  · simp [h8]
  · simp [show j - 8 < 8 by omega, show 8 + (j - 8) = j by omega]
  · simp [show j - 16 < 8 by omega, show 16 + (j - 16) = j by omega]
  · simp [show j - 24 < 8 by omega, show 24 + (j - 24) = j by omega]

/-- The loop over the four bytes of a word sees only the XOR of its value and the word (R148). -/
theorem crcLoop_le32 (c v : Word) : crcLoop c (le32 v) = slice4Step (c ^^^ v) 0 := by
  rw [le32, ← narrowSlice_eq_crcLoop, ← slice4Step_wordOf, wordOf_extractLsb']
  simp [slice4Step]

/-- Settles O21: the checksum's own bytes cancel it, and what is left to run through is the inversion alone. -/
theorem residue : Obligations.Residue := by
  unfold Obligations.Residue
  intro seed x
  have hcancel (v : Word) : v ^^^ inversion ^^^ v = inversion := by
    rw [BitVec.xor_comm v, BitVec.xor_assoc, BitVec.xor_self, BitVec.xor_zero]
  rw [crc32c_append]
  change crc32c (crc32c seed x) (le32 (crc32c seed x)) = _
  rw [crc32c, crcLoop_le32, hcancel]
  decide

/-! ### Another DATAPATH changes nothing but bits 9:8 of a STATUS response (R85, R216) -/

/-- The state of a block built with another datapath, with responses of its own. -/
def State.rebuilt (dp : Datapath) (rsp : Option Word) (taken : List Word) (s : State) : State :=
  { s with datapath := dp, rsp := rsp, taken := taken }

/-- The responses `rsp` and `taken` are those of `s`, as far as `f` shows them. -/
def SameResponses (f : Word → Word) (rsp : Option Word) (taken : List Word) (s : State) : Prop :=
  rsp.map f = s.rsp.map f ∧ taken.map f = s.taken.map f

/-- `f` does not show the datapath a STATUS word was made with. -/
def HidesDatapath (f : Word → Word) : Prop :=
  ∀ (dp : Datapath) (rsp : Option Word) (taken : List Word) (s : State),
    f (statusWord (s.rebuilt dp rsp taken)) = f (statusWord s)

/-- The DATAPATH field is bits 9:8 of the STATUS word, and the other bits do not depend on it (R106). -/
theorem getLsbD_statusWord_rebuilt (dp : Datapath) (rsp : Option Word) (taken : List Word) (s : State) {j : Nat}
    (hj : ¬ (j = 8 ∨ j = 9)) : (statusWord (s.rebuilt dp rsp taken)).getLsbD j = (statusWord s).getLsbD j := by
  simp only [statusWord, State.rebuilt, BitVec.getLsbD_setWidth, BitVec.getLsbD_append]
  by_cases hlow : j < 8
  · simp only [show j - 1 < 7 by omega, if_true]
  · simp only [show ¬ j - 1 - 7 < 2 by omega, if_false]

/-- Setting bits 9:8 to 0 hides the DATAPATH field. -/
theorem hidesDatapath_maskDatapath : HidesDatapath maskDatapath := by
  intro dp rsp taken s
  apply BitVec.eq_of_getLsbD_eq
  intro j _
  rw [maskDatapath, maskDatapath, BitVec.getLsbD_and, BitVec.getLsbD_and]
  by_cases hfield : j = 8 ∨ j = 9
  · obtain rfl | rfl := hfield <;> simp
  · rw [getLsbD_statusWord_rebuilt dp rsp taken s hfield]

/-- Taking a response moves what RSP holds, if anything, behind what the host has taken (R51). -/
theorem takeResponse_eq (s : State) :
    s.takeResponse = { s with rsp := none, taken := s.taken ++ s.rsp.toList } := by
  cases s with
  | mk _ _ _ rsp => cases rsp <;> simp [State.takeResponse]

/-- A command does the same on a block with another datapath, but for the response it fills RSP with. -/
theorem exec_rebuilt {f : Word → Word} {i : Instr} {s t : State} (h : exec i s = .next t)
    (hi : HidesDatapath f ∨ ∀ d, i ≠ .status d) (dp : Datapath) {rsp : Option Word} {taken : List Word}
    (hsame : SameResponses f rsp taken s) :
    ∃ rsp', exec i (s.rebuilt dp rsp taken) = .next (t.rebuilt dp rsp' taken) ∧ SameResponses f rsp' taken t := by
  obtain ⟨hrsp, htaken⟩ := hsame
  cases i
  case read d => cases h; exact ⟨some s.acc, rfl, rfl, htaken⟩
  case status d =>
    cases h
    obtain hf | hd := hi
    · exact ⟨some _, rfl, congrArg some (hf dp rsp taken s), htaken⟩
    · exact absurd rfl (hd d)
  all_goals cases h; exact ⟨rsp, rfl, hrsp, htaken⟩

/-- An accepted command word does the same on a block with another datapath, but for the response. -/
theorem acceptCommand_rebuilt {f : Word → Word} {w : CmdWord} {s t : State} (h : acceptCommand w s = .next t)
    (hw : HidesDatapath f ∨ eventIsStatus (.command w) = false) (dp : Datapath) {rsp : Option Word}
    {taken : List Word} (hsame : SameResponses f rsp taken s) :
    ∃ rsp', acceptCommand w (s.rebuilt dp rsp taken) = .next (t.rebuilt dp rsp' taken) ∧
      SameResponses f rsp' taken t := by
  obtain ⟨i, hd, hx⟩ | ⟨op, hd, rfl⟩ := acceptCommand_cases h
  · have hi : HidesDatapath f ∨ ∀ d, i ≠ .status d := by
      refine hw.imp_right ?_
      rintro hw d rfl
      simp [eventIsStatus, opField_of_decode_control hd rfl, opcodeOf] at hw
    simpa only [acceptCommand, hd] using exec_rebuilt hx hi dp hsame
  · exact ⟨rsp, by simp only [acceptCommand, hd]; rfl, hsame⟩

/-- A step with BUSY clear does the same on a block with another datapath, but for the responses. -/
theorem step_rebuilt {f : Word → Word} {s t : State} (hidle : s.initialised = true → s.busy = none)
    (h : step s = .next t) (hst : HidesDatapath f ∨ ∀ ev ∈ s.pending.take 1, eventIsStatus ev = false)
    (dp : Datapath) {rsp : Option Word} {taken : List Word} (hsame : SameResponses f rsp taken s) :
    ∃ rsp' taken', step (s.rebuilt dp rsp taken) = .next (t.rebuilt dp rsp' taken') ∧
      SameResponses f rsp' taken' t := by
  obtain ⟨hrsp, htaken⟩ := hsame
  obtain ⟨rest, hp, rfl⟩ | ⟨rest, hp, rfl⟩ | ⟨b, hi, hb, -⟩ | ⟨rest, hp, hi, hb, rfl⟩ |
    ⟨w, rest, hp, hi, hb, hr, ha⟩ := step_cases h
  · exact ⟨none, taken, step_reset (s := s.rebuilt dp rsp taken) hp, rfl, htaken⟩
  · exact ⟨_, taken, step_powerLoss (s := s.rebuilt dp rsp taken) hp, rfl, htaken⟩
  · rw [hidle hi] at hb; cases hb
  · refine ⟨none, taken ++ rsp.toList, ?_, ?_⟩
    · rw [step_take (s := s.rebuilt dp rsp taken) hp hi hb, takeResponse_eq, takeResponse_eq]; rfl
    · rw [takeResponse_eq]
      exact ⟨rfl, by simp [htaken, ← Option.toList_map, hrsp]⟩
  · have hnone : rsp = none := by simpa [hr] using hrsp
    obtain ⟨rsp', hx, hsame'⟩ := acceptCommand_rebuilt ha (hst.imp_right fun hst => hst _ (by simp [hp])) dp
      (rsp := rsp) (taken := taken) ⟨hrsp, htaken⟩
    exact ⟨rsp', taken, (step_command (s := s.rebuilt dp rsp taken) hp ⟨hi, hb, hnone⟩).trans hx, hsame'⟩

/-- A run goes the same way on a block with another datapath, but for the responses: the statement the induction on the
number of steps carries. -/
theorem runs_rebuilt {f : Word → Word} {n : Nat} {s t : State} (hidle : s.initialised = true → s.busy = none)
    (h : Runs n s t) (hst : HidesDatapath f ∨ ∀ ev ∈ s.pending.take n, eventIsStatus ev = false) (dp : Datapath)
    {rsp : Option Word} {taken : List Word} (hsame : SameResponses f rsp taken s) :
    ∃ rsp' taken', Runs n (s.rebuilt dp rsp taken) (t.rebuilt dp rsp' taken') ∧ SameResponses f rsp' taken' t := by
  induction n generalizing s rsp taken with
  | zero => cases (runs_zero s t).mp h; exact ⟨rsp, taken, (runs_zero _ _).mpr rfl, hsame⟩
  | succ n ih =>
    obtain ⟨u, hu, hut⟩ := (runs_succ n s t).mp h
    obtain ⟨rsp₁, taken₁, hstep, hsame₁⟩ := step_rebuilt hidle hu
      (hst.imp_right fun hst ev hev => hst ev (List.take_subset_take_left _ (by omega) hev)) dp hsame
    obtain ⟨rsp', taken', hrun, hsame'⟩ := ih (noBusyTransaction s u hidle hu) hut
      (hst.imp_right fun hst ev hev => hst ev (step_take_pending_subset hu n hev)) hsame₁
    exact ⟨rsp', taken', (runs_succ n _ _).mpr ⟨_, hstep, hrun⟩, hsame'⟩

/-- Settles O40: the two runs take the same steps. What is compared of the responses is all but bits 9:8, or all of them
where no STATUS is performed. -/
theorem datapathHasNoEffect : Obligations.DatapathHasNoEffect := by
  unfold Obligations.DatapathHasNoEffect
  intro n s t dp hb h
  obtain ⟨rsp, taken, hrun, hrsp, htaken⟩ :=
    runs_rebuilt (fun _ => hb) h (.inl hidesDatapath_maskDatapath) dp (rsp := s.rsp) (taken := s.taken) ⟨rfl, rfl⟩
  refine ⟨t.rebuilt dp rsp taken, hrun, rfl, rfl, rfl, rfl, hrsp, htaken, fun hst => ?_⟩
  obtain ⟨rsp', taken', hrun', hrsp', htaken'⟩ :=
    runs_rebuilt (f := id) (fun _ => hb) h (.inr hst) dp (rsp := s.rsp) (taken := s.taken) ⟨rfl, rfl⟩
  rw [Host.Outcome.next.inj (hrun.symm.trans hrun')]
  simp only [Option.map_id, List.map_id, id_eq] at hrsp' htaken'
  rw [hrsp', htaken']
  rfl

end Sys2Proof.Machine

/-! PROOFS. The control commands (41_control_commands.md): NOP, SEED, READ and STATUS, each as one equation for its
meaning, and the run of a command whose response the host takes at once. -/

namespace Sys2Proof.Machine

/-! ### What each control command answers (R101, R102, R103, R105) -/

theorem exec_nop (d : Data) (s : State) : exec (.nop d) s = .next s := rfl

theorem exec_seed (d : Data) (s : State) : exec (.seed d) s = .next (s.setAcc (seedOperand d)) := rfl

theorem exec_read (d : Data) (s : State) : exec (.read d) s = .next (s.respond s.acc) := rfl

theorem exec_status (d : Data) (s : State) : exec (.status d) s = .next (s.respond (statusWord s)) := rfl

/-! ### NOP, SEED and READ (R101 to R103) -/

/-- Settles O6: the word is that of NOP, and NOP answers the state it was given. -/
theorem nopMeaning : Obligations.NopMeaning := by
  unfold Obligations.NopMeaning
  intro d s
  exact ⟨decode_encode (.nop d), exec_nop d s⟩

/-- Settles O7: SEED writes ACC with its operand, the low 32 bits of `data`. -/
theorem seedMeaning : Obligations.SeedMeaning := by
  unfold Obligations.SeedMeaning
  intro d s
  have hexample : seedOperand 0xDEADBEEFC1D04330 = 0xC1D04330 := by decide
  exact ⟨decode_encode (.seed d), exec_seed d s, rfl, by rw [exec_seed, hexample]; rfl⟩

/-- Settles O8: READ fills RSP with ACC, and a full RSP holds back the next command. -/
theorem readMeaning : Obligations.ReadMeaning := by
  unfold Obligations.ReadMeaning
  refine ⟨fun d s => ⟨decode_encode (.read d), exec_read d s, ?_⟩, fun d dp => exec_read d _, ?_⟩
  · rw [State.internal, BitVec.not_not]
  · intro d s t w rest ⟨hi, hb, _⟩ ht
    rw [exec_read] at ht
    cases ht
    exact step_command_stuck rfl hi hb rfl

/-! ### The STATUS word (R105 to R107) -/

/-- Each field of the STATUS word stands where R106 puts it, and every bit outside them is 0. -/
theorem statusWord_fields (s : State) :
    (statusWord s).extractLsb' 0 1 = BitVec.ofBool s.err ∧
    (statusWord s).extractLsb' 1 7 = 0 ∧
    (statusWord s).extractLsb' 8 2 = dpCode s.datapath ∧
    (statusWord s).extractLsb' 10 6 = 0 ∧
    (statusWord s).extractLsb' 16 8 = s.errop ∧
    (statusWord s).extractLsb' 24 8 = 0 := by
  have htop : (statusWord s).extractLsb' 24 8 = 0 := by
    ext j hj
    simp [statusWord]
  refine ⟨?_, ?_, ?_, ?_, ?_, htop⟩ <;> rw [statusWord]
  -- The widths of the concatenation have to stay the sums they are, or no lemma about `++` matches.
  all_goals
    simp (disch := decide) only [-Nat.reduceAdd, BitVec.extractLsb'_setWidth_of_le,
      BitVec.extractLsb'_append_eq_of_le, BitVec.extractLsb'_append_eq_of_add_le, Nat.reduceSub,
      BitVec.extractLsb'_eq_self, BitVec.ofNat_eq_ofNat]

/-- Right after reset the STATUS word is the DATAPATH code alone (R105). -/
theorem statusWord_resetOf (dp : Datapath) : statusWord (State.resetOf dp) = (dpCode dp).setWidth 32 <<< 8 := by
  cases dp <;> rfl

/-- No command writes a register that STATUS reads, other than by its response (R106). -/
theorem exec_statusFields {i : Instr} {s t : State} (h : exec i s = .next t) :
    t.err = s.err ∧ t.errop = s.errop ∧ t.datapath = s.datapath := by
  obtain ⟨v, rfl⟩ | ⟨v, rfl⟩ := exec_cases h <;> exact ⟨rfl, rfl, rfl⟩

/-- Settles O9: the response is the STATUS word, whose fields are read off it; ERROP is empty by the invariant of the
error record. -/
theorem statusMeaning : Obligations.StatusMeaning := by
  unfold Obligations.StatusMeaning
  refine ⟨fun d s => ⟨decode_encode (.status d), statusWord s, exec_status d s, ?_⟩, fun d dp => ?_,
    fun d => ⟨?_, ?_⟩, ⟨rfl, rfl, rfl, rfl⟩, fun i s t => exec_statusFields⟩
  · obtain ⟨herr, hlow, hdp, hmid, herrop, hhigh⟩ := statusWord_fields s
    refine ⟨herr, hlow, hdp, hmid, herrop, hhigh, fun hi hinv hclear => ?_⟩
    obtain ⟨hempty, -⟩ := hinv hi
    rw [herrop, hempty hclear]
  · rw [exec_status, statusWord_resetOf]
    rfl
  · rfl
  · rfl

/-! ### A command whose response the host takes at once (R104, R212) -/

/-- A ready block performs a command and hands over the response it gives, if any, and is ready again. -/
theorem runs_commandAndTake {i : Instr} {s u : State} {rest : List HostEvent} (hs : s.Ready)
    (hp : s.pending = commandAndTake i ++ rest) (h : exec i s = .next u) :
    ∃ t, Runs 2 s t ∧ t.Ready ∧ t.pending = rest ∧ t.acc = u.acc ∧ t.taken = s.taken ++ u.rsp.toList := by
  have haccept : acceptCommand (encode i) s = .next u := by simp only [acceptCommand, decode_encode, h]
  have hfirst : step s = .next { u with presented := s.presented, pending := .take :: rest, draws := s.draws + 1 } :=
    (step_command hp hs).trans (acceptCommand_host haccept _ _ _)
  obtain ⟨hi, hb, -⟩ := hs
  obtain ⟨u', hu', -, -, hbusy, -, hinit, -, -, htaken, -⟩ := commandFrame i s
  cases hu'.symm.trans h
  refine ⟨_, (Runs.of_step hfirst).append (Runs.of_step (step_take rfl (hinit.trans hi) (hbusy.trans hb))), ?_⟩
  rw [takeResponse_eq]
  exact ⟨⟨hinit.trans hi, hbusy.trans hb, rfl⟩, rfl, rfl, congrArg (· ++ _) htaken⟩

/-- READ and the taking of its response give the host ACC and leave ACC as it was (R103). -/
theorem runs_read {s : State} {d : Data} {rest : List HostEvent} (hs : s.Ready)
    (hp : s.pending = commandAndTake (.read d) ++ rest) :
    ∃ t, Runs 2 s t ∧ t.Ready ∧ t.pending = rest ∧ t.acc = s.acc ∧ t.taken = s.taken ++ [s.acc] :=
  runs_commandAndTake hs hp (exec_read d s)

/-- Commands that only look, the host taking each response, leave ACC as it was: the statement the induction over the
list carries (R104). -/
theorem runs_looks (cmds : List Instr) (hlook : ∀ i ∈ cmds, onlyLooks i = true) {s : State} {rest : List HostEvent}
    (hs : s.Ready) (hp : s.pending = cmds.flatMap commandAndTake ++ rest) :
    ∃ t mid, Runs (2 * cmds.length) s t ∧ t.Ready ∧ t.pending = rest ∧ t.acc = s.acc ∧
      t.taken = s.taken ++ mid := by
  induction cmds generalizing s with
  | nil => exact ⟨s, [], (runs_zero s s).mpr rfl, hs, hp, rfl, by simp⟩
  | cons i cmds ih =>
    obtain ⟨u, hu⟩ := exec_next i s
    have hacc := exec_acc_of_onlyLooks hu (hlook i List.mem_cons_self)
    obtain ⟨v, hrun, hv, hpv, haccv, htakenv⟩ :=
      runs_commandAndTake hs (by rw [hp, List.flatMap_cons, List.append_assoc]) hu
    obtain ⟨t, mid, hrun', ht, hpt, hacct, htakent⟩ := ih (fun j hj => hlook j (List.mem_cons_of_mem i hj)) hv hpv
    refine ⟨t, u.rsp.toList ++ mid, ?_, ht, hpt, by rw [hacct, haccv, hacc], ?_⟩
    · rw [List.length_cons, Nat.mul_succ, Nat.add_comm]
      exact hrun.append hrun'
    · rw [htakent, htakenv, List.append_assoc]

/-- Settles O44: the run is that of the first READ, of the commands between, and of the second READ, and each part
leaves ACC as it was. -/
theorem readIsIdempotent : Obligations.ReadIsIdempotent := by
  unfold Obligations.ReadIsIdempotent
  intro s d e between rest hs hlook hp
  obtain ⟨u, hrun₁, hu, hpu, haccu, htakenu⟩ := runs_read hs (hp.trans (by simp only [List.append_assoc]; rfl))
  obtain ⟨v, mid, hrun₂, hv, hpv, haccv, htakenv⟩ := runs_looks between hlook hu hpu
  obtain ⟨t, hrun₃, ht, hpt, hacct, htakent⟩ := runs_read hv hpv
  have haccs : v.acc = s.acc := haccv.trans haccu
  refine ⟨t, mid, ?_, ?_, hacct.trans haccs, hpt, ht⟩
  · rw [show 2 * between.length + 4 = 2 + 2 * between.length + 2 by omega]
    exact (hrun₁.append hrun₂).append hrun₃
  · rw [htakent, htakenv, htakenu, haccs]

end Sys2Proof.Machine

/-! PROOFS. The UPDATE commands (42_update_commands.md): each length as the checksum of its bytes named one by one, the
values of the rules, and what ACC holds along a session and after any cut of a sequence into commands. -/

namespace Sys2Proof.Machine

/-! ### What ACC holds at every point of a session (R130) -/

/-- Every command but SEED leaves ACC the checksum, continued from ACC, of the bytes it feeds. -/
theorem exec_acc {i : Instr} {s t : State} (h : exec i s = .next t) (hseed : ∀ d, i ≠ .seed d) :
    t.acc = crc32c s.acc (fedBytes i) := by
  cases hu : updateOperand i with
  | some operand =>
    obtain ⟨len, data⟩ := operand
    cases (exec_update hu s).symm.trans h
    rw [fedBytes_update hu]
    rfl
  | none =>
    have hlooks : onlyLooks i = true := by
      cases i
      case nop | read | status => rfl
      case seed d => exact absurd rfl (hseed d)
      all_goals cases hu
    have hfed : fedBytes i = [] := by simp [fedBytes, hu]
    rw [exec_acc_of_onlyLooks h hlooks, hfed, seedIdentity]

/-- Accepting any word but SEED, a reserved one among them, adds the bytes it feeds to the checksum. -/
theorem acceptCommand_acc {w : CmdWord} {s t : State} (h : acceptCommand w s = .next t)
    (hw : eventRestarts (.command w) = false) : t.acc = crc32c s.acc (eventFed (.command w)) := by
  obtain ⟨i, hd, hx⟩ | ⟨op, hd, rfl⟩ := acceptCommand_cases h
  · have hseed : ∀ d, i ≠ .seed d := by
      rintro d rfl
      simp [eventRestarts, opField_of_decode_control hd rfl, opcodeOf] at hw
    simpa only [eventFed, hd] using exec_acc hx hseed
  · simp only [eventFed, hd, seedIdentity _, State.raiseReservedCommand_acc]

/-- Accepting a word leaves the host's list as it is. -/
theorem acceptCommand_pending {w : CmdWord} {s t : State} (h : acceptCommand w s = .next t) :
    t.pending = s.pending := by
  obtain ⟨v, rfl⟩ | ⟨v, rfl⟩ | ⟨op, -, rfl⟩ := acceptCommand_effect h <;> rfl

/-- A step of a block without BUSY, on an event that does not set ACC anew, uses that event up, adds its bytes to the
checksum and begins no BUSY. -/
theorem step_acc_of_idle {s t : State} (hb : s.busy = none) (h : step s = .next t)
    (hev : ∀ ev ∈ s.pending.take 1, eventRestarts ev = false) :
    ∃ ev, s.pending = ev :: t.pending ∧ t.busy = none ∧ t.acc = crc32c s.acc (eventFed ev) := by
  obtain ⟨rest, hp, -⟩ | ⟨rest, hp, -⟩ | ⟨b, -, hb', -⟩ | ⟨rest, hp, -, -, rfl⟩ | ⟨w, rest, hp, -, -, -, ha⟩ :=
    step_cases h
  · cases hev .reset (by simp [hp])
  · cases hev .powerLoss (by simp [hp])
  · rw [hb] at hb'; cases hb'
  · exact ⟨.take, by simpa using hp, by simpa using hb, by simp [eventFed, seedIdentity _]⟩
  · have hacc := acceptCommand_acc ha (hev _ (by simp [hp]))
    exact ⟨.command w, by rw [acceptCommand_pending ha]; exact hp, (acceptCommand_busy ha).trans hb, hacc⟩

/-- Settles O41: by induction on the steps, each of which adds the bytes of its event to the checksum. -/
theorem sessionValue : Obligations.SessionValue := by
  unfold Obligations.SessionValue
  intro n
  induction n with
  | zero =>
    intro s t _ h _
    cases (runs_zero s t).mp h
    exact (seedIdentity s.acc).symm
  | succ n ih =>
    intro s t hb h hev
    obtain ⟨u, hu, hut⟩ := (runs_succ n s t).mp h
    obtain ⟨ev, hp, hbu, hacc⟩ :=
      step_acc_of_idle hb hu fun e he => hev e (List.take_subset_take_left _ (by omega) he)
    rw [hp, List.take_succ_cons] at hev ⊢
    rw [ih u t hbu hut fun e he => hev e (List.mem_cons_of_mem ev he), hacc, List.flatMap_cons, crc32c_append]

/-! ### UPDATEL for every L (R120) -/

/-- The loop of R80 is a left fold of the byte step. -/
theorem crcLoop_eq_foldl (c : Word) (s : List Byte) : crcLoop c s = s.foldl step8 c := by
  induction s generalizing c with
  | nil => rfl
  | cons b s ih => exact ih _

/-- Settles O10: the word decodes to the UPDATE of that length, and the loop over its bytes is a fold over their
places. -/
theorem updateMeaning : Obligations.UpdateMeaning := by
  unfold Obligations.UpdateMeaning
  intro len d s h1 h8
  obtain ⟨i, hd, hi⟩ := decode_updWord h1 h8 d
  rw [updWord, Nat.add_sub_assoc h1] at hd
  refine ⟨i, hd, hi, exec_update hi s, ?_⟩
  rw [crc32c, crcLoop_eq_foldl, bytesOf, List.foldl_map]
  rfl

/-! ### UPDATE1 to UPDATE8, byte by byte (R121 to R128) -/

/-- An UPDATE from a known ACC writes ACC with the value its bytes evaluate to. -/
theorem exec_update_value {i : Instr} {len : Nat} {data : Data} (hi : updateOperand i = some (len, data))
    {s : State} {a v : Word} (hs : s.acc = a) (hv : crc32c a (bytesOf data len) = v) :
    exec i s = .next (s.setAcc v) := by
  rw [exec_update hi, State.feed, hs, hv]

/-- The four bytes of UPDATE4 are those of the low word of `data` (R90, R124). -/
theorem bytesOf_four (d : Data) : bytesOf d 4 = le32 (d.extractLsb' 0 32) := by
  simp (disch := decide) only [le32, BitVec.extractLsb'_extractLsb'_of_le]
  rfl

/-- The four bytes of a checksum, fed after it, leave the residue (R90, R124). -/
theorem crc32c_le32_self (v : Word) : crc32c v (le32 v) = 0x48674BC7 := by
  have h := residue v []
  rwa [seedIdentity v] at h

/-- UPDATE4 fed the value of ACC leaves the residue, whatever ACC is (R124). -/
theorem exec_update4_acc {d : Data} {s : State} (h : d.extractLsb' 0 32 = s.acc) :
    exec (.update4 d) s = .next (s.setAcc 0x48674BC7) :=
  exec_update_value rfl rfl (by rw [bytesOf_four, h, crc32c_le32_self])

/-- Two UPDATE1 commands, the second with the second byte in its low bits, do what UPDATE2 does (R122). -/
theorem exec_update1_twice {d : Data} {s t u : State} (ht : exec (.update1 d) s = .next t)
    (hu : exec (.update1 ((d.extractLsb' 8 8).setWidth 64)) t = .next u) : exec (.update2 d) s = .next u := by
  have hsecond : bytesOf ((d.extractLsb' 8 8).setWidth 64) 1 = [byteOf d 1] := by
    refine congrArg (· :: []) ?_
    ext j hj
    simp [byteOf, hj, show j < 64 by omega]
  rw [exec_update rfl] at ht hu
  cases ht
  cases hu
  refine exec_update_value rfl rfl ?_
  rw [hsecond]
  exact crc32c_append s.acc [byteOf d 0] [byteOf d 1]

set_option maxRecDepth 20000 in
/-- Settles O11: each UPDATE by its meaning, the corner cases by the two lemmas above, the values by evaluating the
checksum. -/
theorem update1To4 : Obligations.Update1To4 := by
  unfold Obligations.Update1To4
  refine ⟨fun d s => ⟨exec_update (len := 1) rfl s, exec_update (len := 2) rfl s, exec_update (len := 3) rfl s,
      exec_update (len := 4) rfl s, fun _ => rfl, fun t u => exec_update1_twice, exec_update4_acc⟩,
    fun s hs => ⟨?_, ?_, ?_, ?_, ?_, ?_, ?_, ?_, ?_, ?_⟩⟩
  all_goals exact exec_update_value rfl hs (by decide)

/-- UPDATE7 does not look at bits 63:56 of its data (R127). -/
theorem exec_update7_high_byte (b : Byte) (d : Data) (s : State) :
    exec (.update7 (b ++ d.setWidth 56)) s = exec (.update7 d) s :=
  exec_update_congr (len := 7) rfl rfl BitVec.setWidth_append_eq_right s

/-- The first clock of an UPDATE5 on the four-byte datapath takes the low word and leaves the fifth byte (R125). -/
theorem datapathClock_slice4_five (c : Word) (d : Data) :
    datapathClock .slice4 (.bytes c (bytesOf d 5)) =
      .bytes (slice4Step c (d.extractLsb' 0 32)) [d.extractLsb' 32 8] := by
  have hword := wordOf_extractLsb' (d.extractLsb' 0 32)
  simp (disch := decide) only [BitVec.extractLsb'_extractLsb'_of_le] at hword
  rw [← hword]
  rfl

set_option maxRecDepth 20000 in
/-- Settles O12: each UPDATE by its meaning, UPDATE5 on SLICE4 by its two clocks, the values by evaluating the
checksum, the four UPDATE8s one after the other. -/
theorem update5To8 : Obligations.Update5To8 := by
  unfold Obligations.Update5To8
  refine ⟨fun d s => ⟨exec_update (len := 5) rfl s, exec_update (len := 6) rfl s, exec_update (len := 7) rfl s,
      exec_update (len := 8) rfl s, fun _ => rfl, exec_update7_high_byte 0xFF d s⟩,
    fun c c4 d b => ⟨datapathClock_slice4_five c d, rfl⟩,
    fun s hs => ⟨?_, ?_, exec_update_value (a := 0x6087809A) rfl rfl (by decide), ?_, ?_, ?_, ?_⟩,
    fun s hs => ⟨s.setAcc 0xC662DF9D, s.setAcc 0xCFE75B87, s.setAcc 0x77E7E807, ?_,
      exec_update_value (a := 0xC662DF9D) rfl rfl (by decide),
      exec_update_value (a := 0xCFE75B87) rfl rfl (by decide),
      exec_update_value (a := 0x77E7E807) rfl rfl (by decide)⟩⟩
  all_goals exact exec_update_value rfl hs (by decide)

/-! ### Split invariance (R129) -/

/-- The UPDATE words of chunks of one to eight bytes are the words of UPDATE commands that feed the chunks. -/
theorem updates_of_chunks (chunks : List (List Byte)) (h : ∀ c ∈ chunks, 1 ≤ c.length ∧ c.length ≤ 8) :
    ∃ cmds : List Instr, cmds.map encode = chunks.map (fun c => updWord c.length (packBytes c)) ∧
      (∀ i ∈ cmds, (updateOperand i).isSome) ∧ cmds.flatMap fedBytes = chunks.flatten := by
  induction chunks with
  | nil => exact ⟨[], rfl, by simp, rfl⟩
  | cons c chunks ih =>
    obtain ⟨⟨h1, h8⟩, htail⟩ := List.forall_mem_cons.mp h
    obtain ⟨i, hd, hi⟩ := decode_updWord h1 h8 (packBytes c)
    obtain ⟨cmds, hwords, hupd, hfed⟩ := ih htail
    refine ⟨i :: cmds, ?_, List.forall_mem_cons.mpr ⟨by rw [hi]; rfl, hupd⟩, ?_⟩
    · rw [List.map_cons, List.map_cons, encode_of_decode hd, hwords]
    · rw [List.flatMap_cons, List.flatten_cons, fedBytes_update hi, bytesOf_packBytes h8, hfed]

/-- Settles O42: the run is that of the UPDATE commands whose words the host presents. -/
theorem splitInvariance : Obligations.SplitInvariance := by
  unfold Obligations.SplitInvariance
  intro chunks s rest hs hlen hp
  obtain ⟨cmds, hwords, hupd, hfed⟩ := updates_of_chunks chunks hlen
  have hcount : cmds.length = chunks.length := by simpa using congrArg List.length hwords
  have hevents : s.pending = cmds.map (fun i => .command (encode i)) ++ rest := by
    simpa [hp, Function.comp_def] using (congrArg (List.map HostEvent.command) hwords).symm
  obtain ⟨t, hrun, ht, hacc, hpend⟩ := runs_updates cmds hupd hs hevents
  rw [hcount] at hrun
  rw [hfed] at hacc
  exact ⟨t, hrun, ht, hpend, hacc⟩

end Sys2Proof.Machine

/-! PROOFS. The datapath variants (43_datapath_variants.md): the polynomial step, the table and slice steps and the
printed tables, and, by counting the clocks that an UPDATE still takes, that every datapath computes every UPDATE. -/

namespace Sys2Proof.Machine

/-! ### The polynomial and the table datapath (R144, R146) -/

/-- The first bits of a byte are the low bits of the byte widened to a word. -/
theorem take_bitsOf (b : Byte) {j : Nat} (hj : j ≤ 8) :
    (bitsOf b).take j = (List.range j).map (b.setWidth 32).getLsbD := by
  rw [bitsOf, ← List.map_take, List.take_range, Nat.min_eq_left hj]
  refine List.map_congr_left fun k hk => ?_
  have := List.mem_range.mp hk
  simp; omega

/-- Settles O24: R144's induction, taken over the low bits of the byte. -/
theorem bitSerialStep : Obligations.BitSerialStep := by
  unfold Obligations.BitSerialStep
  refine fun c b => ⟨fun j hj => ?_, lfsrLoop_bitsOf c b⟩
  rw [take_bitsOf b hj]
  exact shiftTimes_xor_eq_lfsrLoop c (b.setWidth 32) j

/-- The index of a table lookup is the low byte (R145, R146). -/
theorem extractLsb'_zero_eq_setWidth (x : Word) : x.extractLsb' 0 8 = x.setWidth 8 :=
  (BitVec.setWidth_eq_extractLsb' (by decide)).symm

/-- Settles O25 (the name `tableStep` is the model's): the table step is the byte step, and the BYTE datapath takes it
once a clock. -/
theorem tableStepEquation : Obligations.TableStep := by
  unfold Obligations.TableStep
  intro c b s
  rw [← tableStep_eq_step8, extractLsb'_zero_eq_setWidth]
  exact ⟨rfl, rfl⟩

/-! ### The slice tables (R147, R152) -/

/-- Settles O26: an entry of T0 is a byte step from 0, and each table adds a zero byte. -/
theorem sliceTables : Obligations.SliceTables := by
  unfold Obligations.SliceTables
  refine fun k i => ⟨?_, ?_⟩
  · rw [extractLsb'_zero_eq_setWidth]
    rfl
  · have hentry : table0 i = step8 0 i := by simp [table0, step8]
    rw [table_eq_crcLoop, hentry, crcLoop_cons]

set_option maxRecDepth 20000 in
/-- T0 as printed is the table that R145 gives. -/
theorem romTable_zero : romTable 0 = (List.range 256).map fun n => table0 (BitVec.ofNat 8 n) := by decide

set_option maxRecDepth 20000 in
/-- Each of T1 to T7 as printed comes from the one before it by the recurrence of R147. -/
theorem romTable_succ : ∀ k < 7, romTable (k + 1) = (romTable k).map tableNext := by decide

/-- The printed tables list the recomputed entries, index 0 first. -/
theorem romTable_eq_map_table {k : Nat} (hk : k < 8) :
    romTable k = (List.range 256).map fun n => table k (BitVec.ofNat 8 n) := by
  induction k with
  | zero => exact romTable_zero
  | succ k ih =>
    rw [romTable_succ k (by omega), ih (by omega), List.map_map]
    rfl

/-- Settles O27: T0 by R145 and the others by R147's recurrence, entry by entry. -/
theorem printedTables : Obligations.PrintedTables := by
  unfold Obligations.PrintedTables
  intro k hk
  have hrom := romTable_eq_map_table hk
  refine ⟨by rw [hrom, List.length_map, List.length_range], fun i => ?_⟩
  rw [romEntry, hrom]
  simp [List.getD_eq_getElem?_getD, i.isLt]

/-! ### The four-byte and the eight-byte step (R148, R149) -/

/-- The loop of R80 is a left fold of the table step. -/
theorem crcLoop_eq_foldl_tableStep (c : Word) (s : List Byte) : crcLoop c s = s.foldl tableStep c := by
  rw [crcLoop_eq_foldl, ← funext₂ tableStep_eq_step8]

/-- The four-byte step is the loop over the bytes of its word (R148). -/
theorem slice4Step_eq_crcLoop (c w : Word) : slice4Step c w = crcLoop c (le32 w) := by
  conv_lhs => rw [← wordOf_extractLsb' w, slice4Step_wordOf]
  exact narrowSlice_eq_crcLoop c (le32 w)

/-- With the four bytes of `w` next, a clock of the four-byte datapath takes them in one step. -/
theorem datapathClock_slice4_le32 (c w : Word) (s : List Byte) :
    datapathClock .slice4 (.bytes c (le32 w ++ s)) = .bytes (slice4Step c w) s := by
  conv_rhs => rw [← wordOf_extractLsb' w]
  rfl

/-- Settles O28: the lookups are the step's definition, and the loop over the four bytes is four table steps. -/
theorem slice4 : Obligations.Slice4 := by
  unfold Obligations.Slice4
  refine fun c w s => ⟨rfl, ?_, datapathClock_slice4_le32 c w s⟩
  rw [slice4Step_eq_crcLoop, crcLoop_eq_foldl_tableStep]
  rfl

theorem extractLsb'_extractLsb' {w start len k n : Nat} (x : BitVec w) (h : k + n ≤ len) :
    (x.extractLsb' start len).extractLsb' k n = x.extractLsb' (start + k) n := by
  ext j hj
  simp [Nat.add_assoc, show k + j < len by omega]

/-- Four neighbouring bytes of `data` make the field that holds them. -/
theorem wordOf_byteOf (d : Data) (k : Nat) :
    wordOf (byteOf d k) (byteOf d (k + 1)) (byteOf d (k + 2)) (byteOf d (k + 3)) = d.extractLsb' (8 * k) 32 := by
  rw [← wordOf_extractLsb' (d.extractLsb' (8 * k) 32)]
  simp only [extractLsb'_extractLsb', byteOf, Nat.reduceAdd, Nat.reduceLeDiff, Nat.mul_add, Nat.reduceMul, Nat.add_zero]

/-- A clock of the eight-byte datapath takes an UPDATE8 whole, its low word first (R149). -/
theorem datapathClock_slice8_eight (c : Word) (d : Data) :
    datapathClock .slice8 (.bytes c (bytesOf d 8)) =
      .bytes (slice8Step c (d.extractLsb' 0 32) (d.extractLsb' 32 32)) [] := by
  rw [← wordOf_byteOf d 0, ← wordOf_byteOf d 4]
  rfl

/-- Settles O29: the lookups are those of the eight-byte step, which is the loop over its eight bytes. -/
theorem slice8 : Obligations.Slice8 := by
  unfold Obligations.Slice8
  refine fun c d => ⟨?_, ?_⟩
  · rw [datapathClock_slice8_eight]
    simp (disch := decide) only [slice8Step, extractLsb'_extractLsb']
  · rw [← crcLoop_eq_foldl_tableStep, ← narrowSlice_eq_crcLoop]
    exact congrArg (Busy.bytes · []) (slice8Step_wordOf ..)

/-! ### Every datapath computes every UPDATE (R140) -/

/-- The clocks an UPDATE in progress still takes, nominally (70_reset_and_hazards.md R215). -/
def clocksLeft (dp : Datapath) : Busy → Nat
  | .bits _ todo => todo.length
  | .bytes _ todo =>
    match dp with
    | .bitSerial => todo.length
    | .byte => todo.length
    | .slice4 => todo.length / 4 + todo.length % 4
    | .slice8 => (todo.length + 7) / 8

/-- No clock is left exactly when all data has been consumed. -/
theorem busyDone_iff_clocksLeft (dp : Datapath) (b : Busy) : busyDone b = true ↔ clocksLeft dp b = 0 := by
  cases b with
  | bits c todo => simp [busyDone, clocksLeft]
  | bytes c todo =>
    rw [busyDone, List.isEmpty_iff_length_eq_zero]
    cases dp <;> simp only [clocksLeft] <;> omega

/-- A clock of the four-byte datapath, on four bytes or more or on one of the last three (R148, R150). -/
theorem clocksLeft_slice4Clock (c : Word) (s : List Byte) :
    clocksLeft .slice4 (slice4Clock c s) = s.length / 4 + s.length % 4 - 1 := by
  match s with
  | [] | [_] | [_, _] | [_, _, _] => simp [slice4Clock, byteClock, clocksLeft]
  | _ :: _ :: _ :: _ :: rest =>
    simp only [slice4Clock, clocksLeft, List.length_cons]
    omega

/-- A clock of the eight-byte datapath, on eight bytes or more or on all that are left (R149, R150). -/
theorem clocksLeft_slice8Clock (c : Word) (s : List Byte) :
    clocksLeft .slice8 (slice8Clock c s) = (s.length + 7) / 8 - 1 := by
  unfold slice8Clock
  split
  · simp only [clocksLeft, List.length_cons]
    omega
  · have hlen := length_lt_eight ‹_›
    simp only [clocksLeft, List.length_nil]
    omega

/-- Each clock of a datapath is one clock less to go. -/
theorem clocksLeft_datapathClock (dp : Datapath) (b : Busy) :
    clocksLeft dp (datapathClock dp b) = clocksLeft dp b - 1 := by
  cases b with
  | bits c todo => cases todo <;> rfl
  | bytes c todo =>
    cases dp with
    | bitSerial | byte => cases todo <;> rfl
    | slice4 => exact clocksLeft_slice4Clock c todo
    | slice8 => exact clocksLeft_slice8Clock c todo

/-- A run of clocks keeps the value the UPDATE ends with. -/
theorem busyFinal_datapathRun (dp : Datapath) (n : Nat) (b : Busy) : busyFinal (datapathRun dp n b) = busyFinal b := by
  induction n generalizing b with
  | zero => rfl
  | succ n ih => exact (ih _).trans (busyFinal_datapathClock dp b)

/-- A run of `n` clocks is `n` clocks less to go. -/
theorem clocksLeft_datapathRun (dp : Datapath) (n : Nat) (b : Busy) :
    clocksLeft dp (datapathRun dp n b) = clocksLeft dp b - n := by
  induction n generalizing b with
  | zero => rfl
  | succ n ih => rw [datapathRun, ih, clocksLeft_datapathClock, Nat.sub_sub, Nat.add_comm]

theorem length_bitStream (s : List Byte) : (bitStream s).length = 8 * s.length := by
  simp [bitStream, bitsOf, Nat.mul_comm]

/-- An UPDATE of one to eight bytes starts with its nominal clocks to go (R215). -/
theorem clocksLeft_busyStart (dp : Datapath) (acc : Word) {s : List Byte} (h1 : 1 ≤ s.length) (h8 : s.length ≤ 8) :
    clocksLeft dp (busyStart dp acc s) = nominalClocks dp s.length := by
  cases dp with
  | bitSerial => exact length_bitStream s
  | byte | slice4 => rfl
  | slice8 =>
    simp only [busyStart, clocksLeft, nominalClocks]
    omega

/-- Settles O30: the nominal clocks consume all the data, and none of them changes the value the UPDATE ends with. -/
theorem conformance : Obligations.Conformance := by
  unfold Obligations.Conformance
  intro dp acc len d h1 h8
  have hlen : (bytesOf d len).length = len := by simp [bytesOf]
  have hdone : busyDone (datapathRun dp (nominalClocks dp len) (busyStart dp acc (bytesOf d len))) = true := by
    rw [busyDone_iff_clocksLeft dp, clocksLeft_datapathRun, clocksLeft_busyStart dp acc (by omega) (by omega), hlen,
      Nat.sub_self]
  rw [datapathUpdate, hlen, ← busyFinal_of_done _ hdone, busyFinal_datapathRun, busyFinal_busyStart, crc32c]

end Sys2Proof.Machine

/-! PROOFS. The host adapter (45_host_adapter.md): what the events of `seed`, `feed` and `read` take a ready block from
and to, each said once and then put one after the other. -/

namespace Sys2Proof.Machine

/-! ### A piece of the host's plan, from ACC to ACC -/

/-- On a ready block with ACC = `a` the events run to their end, one step each: they leave ACC = `b`, hand over the
responses, keep the error record and leave the block ready for the events that follow. -/
def Session (a : Word) (events : List HostEvent) (b : Word) (responses : List Word) : Prop :=
  ∀ (s : State) (rest : List HostEvent), s.Ready → s.acc = a → s.pending = events ++ rest →
    ∃ t, Runs events.length s t ∧ t.Ready ∧ t.pending = rest ∧ t.taken = s.taken ++ responses ∧ t.acc = b ∧
      t.err = s.err ∧ t.errop = s.errop

theorem Session.nil (a : Word) : Session a [] a [] :=
  fun s _ hs ha hp => ⟨s, (runs_zero s s).mpr rfl, hs, hp, by simp, ha, rfl, rfl⟩

/-- One piece of the plan after another. -/
theorem Session.append {a b c : Word} {e₁ e₂ : List HostEvent} {r₁ r₂ : List Word} (h₁ : Session a e₁ b r₁)
    (h₂ : Session b e₂ c r₂) : Session a (e₁ ++ e₂) c (r₁ ++ r₂) := by
  intro s rest hs ha hp
  obtain ⟨u, hrun₁, hu, hpu, htakenu, haccu, herru, hopu⟩ := h₁ s (e₂ ++ rest) hs ha (by rw [hp, List.append_assoc])
  obtain ⟨t, hrun₂, ht, hpt, htakent, hacct, herrt, hopt⟩ := h₂ u rest hu haccu hpu
  refine ⟨t, ?_, ht, hpt, ?_, hacct, herrt.trans herru, hopt.trans hopu⟩
  · rw [List.length_append]
    exact hrun₁.append hrun₂
  · rw [htakent, htakenu, List.append_assoc]

/-- Pieces that give no response, one for each element of a list, take ACC through the fold over the list. -/
theorem Session.flatMap {α : Type} {events : α → List HostEvent} {f : Word → α → Word} (xs : List α)
    (h : ∀ x ∈ xs, ∀ a, Session a (events x) (f a x) []) (a : Word) :
    Session a (xs.flatMap events) (xs.foldl f a) [] := by
  induction xs generalizing a with
  | nil => exact .nil a
  | cons x xs ih =>
    obtain ⟨hx, hxs⟩ := List.forall_mem_cons.mp h
    rw [List.flatMap_cons, List.foldl_cons]
    exact (hx a).append (ih hxs (f a x))

/-! ### `seed`, `feed` and `read` (R69, R170 to R172) -/

/-- A command that writes ACC and does nothing else. -/
theorem session_of_setAcc {w : CmdWord} {i : Instr} {a b : Word} (hd : decode w = .command i)
    (hx : ∀ s : State, s.acc = a → exec i s = .next (s.setAcc b)) : Session a [.command w] b [] := by
  intro s rest hs ha hp
  have hstep : step s = .next ((s.consume rest).setAcc b) := (step_decoded hs hp hd).trans (hx _ ha)
  exact ⟨_, .of_step hstep, hs, rfl, by simp, rfl, rfl, rfl⟩

/-- `seed` sets ACC, whatever it was. -/
theorem session_seed (a v : Word) : Session a [.command (cmdWord 0x01 (v.setWidth 64))] v [] := by
  have hv : seedOperand (v.setWidth 64) = v := by
    rw [seedOperand_eq_setWidth, BitVec.setWidth_setWidth_of_le v (by decide), BitVec.setWidth_eq]
  refine session_of_setAcc (decode_encode (.seed (v.setWidth 64))) fun s _ => ?_
  rw [exec_seed, hv]

/-- One UPDATE word of packed bytes feeds those bytes. -/
theorem session_updWord (a : Word) {c : List Byte} (h1 : 1 ≤ c.length) (h8 : c.length ≤ 8) :
    Session a [.command (updWord c.length (packBytes c))] (crc32c a c) [] := by
  obtain ⟨i, hd, hi⟩ := decode_updWord h1 h8 (packBytes c)
  exact session_of_setAcc hd fun s ha => exec_update_value hi ha (by rw [bytesOf_packBytes h8])

/-- The checksum continued from chunk to chunk is the checksum of the whole (40_crc_core.md R83). -/
theorem foldl_crc32c (a : Word) (chunks : List (List Byte)) : chunks.foldl crc32c a = crc32c a chunks.flatten := by
  induction chunks generalizing a with
  | nil => exact (seedIdentity a).symm
  | cons c chunks ih => rw [List.foldl_cons, ih, List.flatten_cons, crc32c_append]

/-- `feed` adds its bytes to the checksum: chunk by chunk. -/
theorem session_writeEvents (bytes : List Byte) (a : Word) :
    Session a (writeEvents bytes) (crc32c a bytes) [] := by
  obtain ⟨chunks, hwords, hflat, hlen, -⟩ := feedWords_eq_map bytes
  have hevents : writeEvents bytes = chunks.flatMap fun c => [.command (updWord c.length (packBytes c))] := by
    rw [writeEvents, hwords, List.map_map, List.map_eq_flatMap]
    rfl
  rw [hevents, ← hflat, ← foldl_crc32c]
  exact Session.flatMap chunks (fun c hc a => session_updWord a (hlen c hc).1 (hlen c hc).2) a

/-- `read`, with its response taken, hands over ACC and keeps it. -/
theorem session_finishEvents (a : Word) : Session a finishEvents a [a] := by
  intro s rest hs ha hp
  have hread : step s = .next ((s.consume (.take :: rest)).respond s.acc) :=
    (step_decoded hs hp (decode_encode (.read 0))).trans (exec_read _ _)
  obtain ⟨hi, hb, -⟩ := hs
  refine ⟨_, (Runs.of_step hread).append (Runs.of_step (step_take rfl hi hb)), ?_⟩
  rw [takeResponse_eq, ← ha]
  exact ⟨⟨hi, hb, rfl⟩, rfl, rfl, rfl, rfl, rfl⟩

/-- Settles O43: `seed`, `feed` and `read`, one after the other. -/
theorem crcEntryPoint : Obligations.CrcEntryPoint := by
  unfold Obligations.CrcEntryPoint
  intro s seed bytes rest hs hp
  have hcrc : Session s.acc (crcMemEvents seed bytes) (crc32c seed bytes) [crc32c seed bytes] :=
    (session_seed s.acc seed).append ((session_writeEvents bytes seed).append (session_finishEvents _))
  exact hcrc s rest hs rfl hp

/-! ### The adapter (R170 to R173) -/

/-- The adapter's value after some writes is the checksum continued from write to write (R171). -/
theorem sum_foldl_write (a : Adapter) (writes : List (List Byte)) :
    (writes.foldl Adapter.write a).sum = writes.foldl crc32c a.sum :=
  (List.foldl_hom Adapter.sum fun _ _ => rfl).symm

/-- Shifting the widened word and joining it with itself puts it in both halves (R172). -/
theorem duplicate_eq_append (r : Word) : duplicate r = r ++ r := by
  rw [duplicate, BitVec.append_def, BitVec.shiftLeftZeroExtend_eq, BitVec.setWidth'_eq]

/-- Either way of creating an adapter leaves ACC its initial value 0 (R170). -/
theorem session_create {create : List HostEvent} {a : Word} (h : create = newEvents ∨ (create = [] ∧ a = 0)) :
    Session a create newAdapter.sum [] := by
  obtain rfl | ⟨rfl, rfl⟩ := h
  · exact session_seed a 0
  · exact .nil 0

/-- Settles O60: the creation, the writes and `finish`, one after the other, and the two halves of `finish`. -/
theorem adapterOnBlock : Obligations.AdapterOnBlock := by
  unfold Obligations.AdapterOnBlock
  refine ⟨fun s writes create rest hs hcreate hp => ?_, fun a => ?_⟩
  · have hwrites := Session.flatMap writes (fun bytes _ => session_writeEvents bytes) newAdapter.sum
    rw [← sum_foldl_write] at hwrites
    obtain ⟨t, hrun, ht, hpt, htaken, hacc, -⟩ :=
      ((session_create hcreate).append hwrites).append (session_finishEvents _) s rest hs rfl hp
    exact ⟨t, _, hrun, ht, hpt, htaken, rfl, hacc⟩
  · rw [Adapter.finish, duplicate_eq_append]
    exact ⟨rfl, BitVec.extractLsb'_append_eq_left, BitVec.extractLsb'_append_eq_right⟩

end Sys2Proof.Machine

/-! PROOFS. Exceptions and reset (60_exceptions.md): the one fault entry, taken by a reserved command, the block that
has not been reset since power-on, and the reset edge. -/

namespace Sys2Proof.Machine

/-! ### The reserved command (R181) -/

/-- The reserved opcodes are the two ranges of R66. -/
theorem isReserved_iff (op : Opcode) :
    isReserved op = true ↔ (0x04 ≤ op.toNat ∧ op.toNat ≤ 0x0F) ∨ (0x18 ≤ op.toNat ∧ op.toNat ≤ 0xFF) := by
  have hlt : op.toNat ≤ 0xFF := Nat.le_of_lt_succ op.isLt
  simp [isReserved, hlt]

/-- A word decodes as reserved exactly where its opcode is (R63, R66). -/
theorem decode_eq_reserved_iff (op : Opcode) (d : Data) :
    decode (cmdWord op d) = .reserved op ↔ isReserved op = true :=
  ⟨isReserved_of_decode, fun h => decode_of_isReserved h d⟩

/-- A ready block accepts a reserved command and raises ReservedCommand: a step like any other, with no stop. -/
theorem step_reserved {s : State} {op : Opcode} {d : Data} {rest : List HostEvent} (hs : s.Ready)
    (hp : s.pending = .command (cmdWord op d) :: rest) (hop : isReserved op = true) :
    step s = .next ((s.consume rest).raiseReservedCommand op) := by
  rw [step_command hp hs, acceptCommand, decode_of_isReserved hop]

/-- The opcode that is captured is the first one (10_state.md R23). -/
theorem captureOp_eq (err : Bool) (errop op : Opcode) :
    captureOp err errop op = if err = false then op else errop := by
  cases err <;> rfl

/-- Settles O32: the ranges are those of `isReserved`, and the one step raises ReservedCommand, which leaves alone what
makes the block ready. -/
theorem reservedCommand : Obligations.ReservedCommand := by
  unfold Obligations.ReservedCommand
  simp only [← isReserved_iff]
  refine ⟨decode_eq_reserved_iff, fun s op d rest hs hp hop => ⟨_, step_reserved hs hp hop, hs, ?_⟩⟩
  rw [← captureOp_eq]
  rfl

/-! ### Before the first reset (R194, R204) -/

/-- A block not reset since power-on refuses every event but the two that do not ask for that, and refuses to go on
without an event (R204). -/
theorem step_not_initialised {s : State} (hi : s.initialised = false) (hreset : ∀ rest, s.pending ≠ .reset :: rest)
    (hloss : ∀ rest, s.pending ≠ .powerLoss :: rest) : step s = .refused .neverReset := by
  cases hp : s.pending with
  | nil => simp [step, transact, hp, serveNothing, hi]
  | cons e rest =>
    cases e with
    | reset => exact absurd hp (hreset rest)
    | powerLoss => exact absurd hp (hloss rest)
    | take => simp [step, transact, hp, serveEvent, hi]
    | command w => simp [step, transact, hp, serveEvent, hi]

/-- Settles O37: the refusal is `step_not_initialised`, and a loss of power, from any state, brings back the condition
it is about. -/
theorem neverReset : Obligations.NeverReset := by
  unfold Obligations.NeverReset
  exact ⟨fun _ => step_not_initialised, fun _ _ hp => ⟨_, step_powerLoss hp, rfl, rfl, rfl⟩⟩

/-! ### The reset edge (R186, R202, R203) -/

/-- Of a host that keeps the handshake an edge asks for `rst` before anything else (R186). -/
theorem clockEdge_reset {p : PortIn} {s : State} (hv : hostViolates p s = false) (hrst : p.rst = true)
    (stall : Bool) : clockEdge stall p s = .next (resetEdge p s.tick) := by
  rw [clockEdge, if_neg (by simp [hv]), if_pos hrst]

/-- Settles O53: the host keeps the handshake, so the edge is a reset edge, and that looks at no input but the command
that stays presented. -/
theorem resetWins : Obligations.ResetWins := by
  unfold Obligations.ResetWins
  intro stall p s hrst hkeeps
  rw [clockEdge_reset (hostViolates_eq_false hkeeps) hrst]
  rfl

end Sys2Proof.Machine

/-! PROOFS. Reset and hazards (70_reset_and_hazards.md): the nominal timing of an UPDATE, as the state that every run of
idle edges after its transfer leaves, then the reset state and the response that must be taken first. -/

namespace Sys2Proof.Machine

/-! ### The edges of an UPDATE (R215) -/

theorem updateOperand_len_pos {i : Instr} {len : Nat} {data : Data} (h : updateOperand i = some (len, data)) :
    1 ≤ len := by
  cases i <;> cases h <;> decide

/-- An UPDATE with data left keeps the block BUSY, and ACC is not yet written (10_state.md R25). -/
theorem holdBusy_of_not_done {b : Busy} (h : ¬ busyDone b = true) (s : State) :
    s.holdBusy b = { s with busy := some b } := by
  rw [State.holdBusy, if_neg h]

/-- What an edge leaves of an UPDATE does not depend on the BUSY it found. -/
theorem holdBusy_of_busy (busy : Option Busy) (b : Busy) (s : State) :
    ({ s with busy := busy } : State).holdBusy b = s.holdBusy b := by
  unfold State.holdBusy
  split <;> rfl

theorem present_of_presented {w : Option CmdWord} {s : State} (h : s.presented = w) : s.present w = s := by
  subst h; rfl

/-- An edge at which the host does nothing takes no command. -/
theorem clockEdge_idle {s : State} (hi : s.initialised = true) (hp : s.presented = none) (stall : Bool) :
    clockEdge stall idleIn s = .next (waitEdge stall idleIn s.tick) := by
  have hv : hostViolates idleIn s = false := hostViolates_eq_false (by simp [hp])
  have hrst : idleIn.rst = false := rfl
  have hc : commandTransfers idleIn s = false := rfl
  simp [clockEdge, hv, hrst, hi, hc]

/-- An edge at which the host does nothing is one clock of the UPDATE in progress. -/
theorem clockEdge_idle_holdBusy {s : State} {b : Busy} (hi : s.initialised = true) (hr : s.rsp = none)
    (hp : s.presented = none) (hb : ¬ busyDone b = true) :
    clockEdge false idleIn (s.holdBusy b) = .next (s.tick.holdBusy (datapathClock s.datapath b)) := by
  rw [clockEdge_idle (by simpa using hi) (by simpa using hp), holdBusy_of_not_done hb,
    waitEdge_of_busy (s := ({ s with busy := some b } : State).tick) rfl hr,
    present_of_presented (by rw [State.advance_presented]; exact hp)]
  exact congrArg Host.Outcome.next (holdBusy_of_busy (some b) _ s.tick)

/-- `n` edges at which the host does nothing are `n` clocks of the UPDATE in progress, as long as it has so many left:
the whole state they leave. -/
theorem clockRun_idle_holdBusy (n : Nat) {s : State} {b : Busy} (hi : s.initialised = true) (hr : s.rsp = none)
    (hp : s.presented = none) (hn : n ≤ clocksLeft s.datapath b) :
    clockRun (List.replicate n (false, idleIn)) (s.holdBusy b) =
      .next (({ s with draws := s.draws + n } : State).holdBusy (datapathRun s.datapath n b)) := by
  induction n generalizing s b with
  | zero => rfl
  | succ n ih =>
    have hb : ¬ busyDone b = true := by rw [busyDone_iff_clocksLeft s.datapath]; omega
    have hleft : n ≤ clocksLeft s.tick.datapath (datapathClock s.datapath b) := by
      rw [State.tick_datapath, clocksLeft_datapathClock]; omega
    rw [List.replicate_succ, clockRun, clockEdge_idle_holdBusy hi hr hp hb]
    refine (ih (s := s.tick) hi hr hp hleft).trans ?_
    rw [State.tick_draws, Nat.add_assoc, Nat.add_comm 1 n]
    rfl

/-- After `n` clocks all data has been consumed exactly if no more than `n` were left. -/
theorem busyDone_datapathRun_iff (dp : Datapath) (n : Nat) (b : Busy) :
    busyDone (datapathRun dp n b) = true ↔ clocksLeft dp b ≤ n := by
  rw [busyDone_iff_clocksLeft dp, clocksLeft_datapathRun, Nat.sub_eq_zero_iff_le]

/-- The transfer edge of an UPDATE is the first clock of its datapath (R215). -/
theorem clockEdge_update {s : State} {i : Instr} {len : Nat} {data : Data} (hs : s.Ready) (hp : s.presented = none)
    (hu : updateOperand i = some (len, data)) :
    clockEdge false (presenting (encode i) false) s =
      .next (s.tick.holdBusy (datapathClock s.datapath (busyStart s.datapath s.acc (bytesOf data len)))) := by
  obtain ⟨hi, hb, hr⟩ := hs
  have hv : hostViolates (presenting (encode i) false) s = false := hostViolates_eq_false (by simp [hp])
  have hword : (presenting (encode i) false).word = encode i := cmdWord_opField_dataField _
  rw [clockEdge_accept hv hi ((commandTransfers_iff ..).mpr ⟨rfl, rfl, hb, hr⟩), hword,
    present_of_presented (by simpa using hp)]
  simp only [acceptEdge, decode_encode, hu]
  rfl

/-- The edges of an UPDATE: its transfer edge and `m` edges at which the host does nothing, no more than its nominal
clocks in all, are `m + 1` clocks of its datapath (R215). -/
theorem clockRun_update {s : State} {i : Instr} {len : Nat} {data : Data} {m : Nat} (hs : s.Ready)
    (hp : s.presented = none) (hu : updateOperand i = some (len, data))
    (hm : m + 1 ≤ clocksLeft s.datapath (busyStart s.datapath s.acc (bytesOf data len))) :
    clockRun ((false, presenting (encode i) false) :: List.replicate m (false, idleIn)) s =
      .next (({ s with draws := s.draws + 1 + m } : State).holdBusy
        (datapathRun s.datapath (m + 1) (busyStart s.datapath s.acc (bytesOf data len)))) := by
  rw [clockRun, clockEdge_update hs hp hu]
  obtain ⟨hi, -, hr⟩ := hs
  refine clockRun_idle_holdBusy m (s := s.tick) hi hr hp ?_
  rw [State.tick_datapath, clocksLeft_datapathClock]
  omega

/-- Settles O58: of `k` nominal clocks the first `m` leave `k - m` to go, so that the block is BUSY until the last one,
which leaves the value the UPDATE ends with. -/
theorem nominalTiming : Obligations.NominalTiming := by
  unfold Obligations.NominalTiming
  intro s i len d n hs hp hu hbits hbyte hslice4 hslice8
  have hclocks : clocksLeft s.datapath (busyStart s.datapath s.acc (bytesOf d len)) = n + 1 := by
    have hlen : (bytesOf d len).length = len := by simp [bytesOf]
    rw [clocksLeft_busyStart _ _ (hlen.symm ▸ updateOperand_len_pos hu) (hlen.symm ▸ updateOperand_len_le hu), hlen]
    cases hdp : s.datapath with
    | bitSerial => exact (hbits hdp).symm
    | byte => exact (hbyte hdp).symm
    | slice4 => exact (hslice4 hdp).symm
    | slice8 => exact (hslice8 hdp).symm
  refine ⟨⟨_, clockRun_update hs hp hu hclocks.ge, ?_⟩, fun m hm => ⟨_, clockRun_update hs hp hu (by omega), ?_⟩⟩
  · have hdone := (busyDone_datapathRun_iff s.datapath (n + 1) _).mpr hclocks.le
    rw [holdBusy_of_done hdone, busyFinal_datapathRun, busyFinal_busyStart]
    exact ⟨rfl, rfl⟩
  · have hleft := (busyDone_datapathRun_iff s.datapath (m + 1) _).not.mpr
      (Nat.not_le.mpr ((Nat.succ_lt_succ hm).trans_eq hclocks.symm))
    rw [holdBusy_of_not_done hleft]
    exact ⟨by simp, rfl⟩

/-! ### Reset (R201, R202, R206) -/

/-- Settles O34: a reset event has its step from any state, and that step leaves the reset values, from which READ
responds ACC. -/
theorem resetValues : Obligations.ResetValues := by
  unfold Obligations.ResetValues
  have hinternal : ~~~(0x00000000 : Word) = 0xFFFFFFFF := by decide
  refine ⟨fun s rest hp => ⟨_, step_reset hp, rfl, hinternal, rfl, rfl, rfl, rfl, rfl, rfl, fun d => ?_⟩,
    rfl, rfl, rfl, rfl, rfl, rfl⟩
  exact ⟨by rw [exec_read, seedIdentity 0]; rfl, seedIdentity 0⟩

/-- Settles O50: at reset ERR = 0 with ERROP empty, and neither BUSY nor RSP is in use. -/
theorem invariantsAtReset : Obligations.InvariantsAtReset := by
  unfold Obligations.InvariantsAtReset
  have herr : State.reset.ErrInv := fun _ => ⟨fun _ => rfl, fun h => by cases h⟩
  have hport : State.reset.PortInv := fun _ _ => rfl
  exact ⟨herr, hport, rfl, rfl, rfl, rfl⟩

/-! ### The response before the next command (R212) -/

/-- Settles O35: with RSP full a command is stuck, and so is a host with no event left; taking the response goes on. -/
theorem responseFirst : Obligations.ResponseFirst := by
  unfold Obligations.ResponseFirst
  intro s v hi hb hr
  have hfull : s.rsp.isSome = true := by rw [hr]; rfl
  refine ⟨fun w rest hp => step_command_stuck hp hi hb hfull, fun hp => ?_, fun rest hp => ?_⟩
  · rw [step_no_event hp hi hb, if_pos hfull]
  · exact ⟨_, step_take hp hi hb, by simp, by simp⟩

end Sys2Proof.Machine
